-- ==== Sys2Proof/Word.lean ====
section
/-! DEFINITION. Words of the part: bytes, 16-bit values, the 8-byte buffer, and tables of a fixed number of
entries. Every fixed-size table of the manual (32 circuit ids, 30 station addresses) is a `Table`, so that no index
can fall outside it. -/

namespace Sys2Proof

/-- A byte, as the host link and the cells carry it (09, conventions). -/
abbrev Byte := BitVec 8

/-- A 16-bit value: CRC, counter, cell header. -/
abbrev Half := BitVec 16

/-- A frame number: 16 bits, so that sums and differences are taken modulo 65 536 (00, Frame arithmetic). -/
abbrev FrameNo := BitVec 16

/-- A token: 4 bits, so that 15 is followed by 0 (R102). -/
abbrev Token := BitVec 4

/-- A station address 1 to 30, held as 0 to 29 (R72). -/
abbrev StAddr := Fin 30

/-- A circuit id 0 to 31 (R24). -/
abbrev CircuitId := Fin 32

/-- The two bytes of a 16-bit value, most significant first (00, Byte order). -/
def halfBytes (h : Half) : List Byte := [h.extractLsb' 8 8, h.extractLsb' 0 8]

/-- The four bytes of a 32-bit value, most significant first. -/
def wordBytes (w : BitVec 32) : List Byte :=
  [w.extractLsb' 24 8, w.extractLsb' 16 8, w.extractLsb' 8 8, w.extractLsb' 0 8]

/-- One buffer of the cell pool, or the payload of one cell: 8 bytes, `b0` first (R134, R171). -/
structure Buf where
  b0 : Byte
  b1 : Byte
  b2 : Byte
  b3 : Byte
  b4 : Byte
  b5 : Byte
  b6 : Byte
  b7 : Byte
deriving DecidableEq, Repr

/-- 8 zero bytes. -/
def Buf.zero : Buf := ⟨0, 0, 0, 0, 0, 0, 0, 0⟩

/-- The bytes of a buffer in their order. -/
def Buf.bytes (b : Buf) : List Byte := [b.b0, b.b1, b.b2, b.b3, b.b4, b.b5, b.b6, b.b7]

/-- The buffer that holds bytes `8k` to `8k + 7` of a data field (R55). -/
def Buf.ofData (data : List Byte) (k : Nat) : Buf :=
  ⟨data.getD (8 * k) 0, data.getD (8 * k + 1) 0, data.getD (8 * k + 2) 0, data.getD (8 * k + 3) 0,
   data.getD (8 * k + 4) 0, data.getD (8 * k + 5) 0, data.getD (8 * k + 6) 0, data.getD (8 * k + 7) 0⟩

/-- A table of exactly `n` entries. -/
structure Table (α : Type) (n : Nat) where
  toList : List α
  size_eq : toList.length = n
deriving DecidableEq, Repr

/-- The table whose entry `i` is `f i`. -/
def Table.ofFn {α : Type} {n : Nat} (f : Fin n → α) : Table α n := ⟨List.ofFn f, List.length_ofFn⟩

/-- The table whose entries are all `a`. -/
def Table.replicate {α : Type} (n : Nat) (a : α) : Table α n := ⟨List.replicate n a, List.length_replicate⟩

/-- Entry `i`. -/
def Table.get {α : Type} {n : Nat} (t : Table α n) (i : Fin n) : α :=
  t.toList.get (i.cast t.size_eq.symm)

/-- The table with entry `i` replaced. -/
def Table.set {α : Type} {n : Nat} (t : Table α n) (i : Fin n) (a : α) : Table α n :=
  ⟨t.toList.set i a, by rw [List.length_set]; exact t.size_eq⟩

/-- The table with every entry passed through `f`. -/
def Table.map {α β : Type} {n : Nat} (t : Table α n) (f : α → β) : Table β n :=
  ⟨t.toList.map f, by rw [List.length_map]; exact t.size_eq⟩

/-- The sum of a measure over all entries. -/
def Table.sum {α : Type} {n : Nat} (t : Table α n) (f : α → Nat) : Nat := (t.toList.map f).sum

end Sys2Proof
end

