-- ==== Sys2Proof/Config.lean ====
section
/-! DEFINITION. What the silicon fixes (Table 0.1, R160) and what the manual leaves free. -/

namespace Sys2Proof

/-- Buffers in the cell pool (R134). -/
def Config.poolBuffers : Nat := 512

/-- Buffers an outbound claim must leave free: the inbound reserve (R135). -/
def Config.inboundReserve : Nat := 64

/-- Entries of the delivery queue, records and reservations together (R142). -/
def Config.deliveryEntries : Nat := 128

/-- The occupancy from which DATA records are dropped (R140). -/
def Config.highMark : Nat := 96

/-- Host transaction records (R97). -/
def Config.hostRecords : Nat := 24

/-- Batch items (R118). -/
def Config.batchItems : Nat := 15

/-- Circuit definitions per schedule (R23). -/
def Config.circuits : Nat := 32

/-- Station addresses (R72). -/
def Config.stations : Nat := 30

/-- Requests that may stand unanswered (R155). -/
def Config.unansweredLimit : Nat := 4

/-- Least and most slots per frame (R1). -/
def Config.leastSlots : Nat := 16

/-- Most slots per frame (R1). -/
def Config.mostSlots : Nat := 64

/-- The largest value of the credit counter (R146). -/
def Config.creditLimit : Nat := 255

/-- The value of frames since heard at which a station is a presence-check candidate (R76, R77). -/
def Config.heardLimit : Nat := 64

/-- The collision streak at which the line fault occurs (R19). -/
def Config.faultStreak : Nat := 3

/-- The most payload bytes a host-link frame carries (R152). -/
def Config.payloadLimit : Nat := 252

/-- Vendor code (R160). -/
def Config.vendor : Half := 0x7A31

/-- Part code (R160). -/
def Config.part : Half := 0x4120

/-- Silicon revision (R160). -/
def Config.revision : Byte := 0x02

/-- DESIGN CHOICE (log entry 4), safe: the free value behind every order that the manual leaves open (R9, R148,
R39 and R127). Draw number `n` of a run is `freeChoice n`; nothing says what it is. -/
opaque Config.freeChoice : Nat → Nat

end Sys2Proof
end

