-- ==== Sys2Proof/Syntax.lean ====
section
/-! DEFINITION. The commands of the block: one constructor for each row of opcode_table.json. -/

namespace Sys2Proof

/-- A cell on the trunk as the port receives it (R16, R171): the header, the 8 payload bytes, the check, and whether
its 96 bits ended before the slot closed. -/
structure RxCell where
  header : Half
  payload : Buf
  check : Half
  ended : Bool
deriving DecidableEq, Repr

/-- What TRX carried from a slot's opening to its closing (R16, R18): nothing, or the first cell that began in it and
the number of further cells that began after it. A cell that began in a quiet slot and was counted as it began
(`Moment.trxCell`) is not in it again. -/
inductive SlotLine where
  | silent
  | cell (c : RxCell) (later : Nat)
deriving DecidableEq, Repr

/-- Why a frame on the host link ends with a format error (R153). -/
inductive FormatCause where
  /-- a LEN byte of 0, 1 or 255 -/
  | illegalLen (len : Byte)
  /-- a character whose stop bit is low, inside a frame (R151) -/
  | character
deriving DecidableEq, Repr

/-- The 49 rows. A request carries the TAG byte and the payload bytes of its frame (R152); its KIND is the row's. -/
inductive Instr where
  -- host link and credits
  | hello (tag : Byte) (payload : List Byte)
  | status (tag : Byte) (payload : List Byte)
  | restart (tag : Byte) (payload : List Byte)
  | credit (tag : Byte) (payload : List Byte)
  -- trunk port
  | configure (tag : Byte) (payload : List Byte)
  | start (tag : Byte) (payload : List Byte)
  | stop (tag : Byte) (payload : List Byte)
  -- schedule
  | defineCircuit (tag : Byte) (payload : List Byte)
  | dropCircuit (tag : Byte) (payload : List Byte)
  | setOpen (tag : Byte) (payload : List Byte)
  | adopt (tag : Byte) (payload : List Byte)
  | revert (tag : Byte) (payload : List Byte)
  -- circuits
  | put (tag : Byte) (payload : List Byte)
  | purge (tag : Byte) (payload : List Byte)
  | readCircuit (tag : Byte) (payload : List Byte)
  -- roster
  | admitStation (tag : Byte) (payload : List Byte)
  | excludeStation (tag : Byte) (payload : List Byte)
  | releaseStation (tag : Byte) (payload : List Byte)
  | queryStation (tag : Byte) (payload : List Byte)
  -- transactions
  | transact (tag : Byte) (payload : List Byte)
  | cancel (tag : Byte) (payload : List Byte)
  -- batch unit
  | batchLoad (tag : Byte) (payload : List Byte)
  | batchPreset (tag : Byte) (payload : List Byte)
  | batchRun (tag : Byte) (payload : List Byte)
  | batchAbort (tag : Byte) (payload : List Byte)
  -- frames refused or lost on the host link
  | unknownKind (kind : Byte) (tag : Byte) (payload : List Byte)
  | backlogDiscard
  | crcError (body : List Byte) (crc : Half)
  | formatError (cause : FormatCause)
  | interByteTimeout
  -- resets
  | powerOnReset (pinLow : Bool) (rate1 : Bool) (rate0 : Bool)
  | resetPinAssert
  | resetPinRelease (rate1 : Bool) (rate0 : Bool)
  -- transmitter and removal
  | bootTransmit
  | bootSent
  | replyTransmit
  | replySent
  | noticeTransmit
  | noticeSent
  | batchRoomOffer
  -- frame start
  | frameStart
  | enterRunning
  | adoptionAtRoundStart
  | deferTimeout
  | batchItemTimeout
  -- slots
  | slotOpen
  | slotClose (line : SlotLine)
  | collision
  | stopComplete
deriving DecidableEq, Repr

/-- The KIND codes of the requests (R165). -/
def requestKinds : List Byte :=
  [0x01, 0x02, 0x03, 0x04, 0x08, 0x09, 0x0A, 0x10, 0x11, 0x12, 0x13, 0x14, 0x18, 0x19, 0x1A,
   0x20, 0x21, 0x22, 0x23, 0x28, 0x29, 0x30, 0x31, 0x32, 0x33]

end Sys2Proof
end

