-- ==== Sys2Proof/Machine/Formats.lean ====
section
/-! DEFINITION. The line formats: the two check codes, the cell header and the frame-start marker, the host-link
frame (R13, R15, R152, R171, R172). -/

namespace Sys2Proof.Machine

/-- One bit step of the CRC with polynomial 1021h, most significant bit first (R15, R152). -/
def crc16Shift (c : Half) : Half :=
  if c.msb then (c <<< 1) ^^^ 0x1021 else c <<< 1

/-- One byte step of the same CRC. -/
def crc16Byte (c : Half) (b : Byte) : Half :=
  let c := c ^^^ (b.setWidth 16 <<< 8)
  crc16Shift (crc16Shift (crc16Shift (crc16Shift (crc16Shift (crc16Shift (crc16Shift (crc16Shift c)))))))

/-- CRC-16 of R15 and R152: polynomial 1021h, initial value FFFFh, no final inversion. -/
def crc16 (bytes : List Byte) : Half := bytes.foldl crc16Byte 0xFFFF

/-- One bit step of the CRC with polynomial 07h (R13). -/
def crc8Shift (c : Byte) : Byte :=
  if c.msb then (c <<< 1) ^^^ 0x07 else c <<< 1

/-- One byte step of the same CRC. -/
def crc8Byte (c : Byte) (b : Byte) : Byte :=
  let c := c ^^^ b
  crc8Shift (crc8Shift (crc8Shift (crc8Shift (crc8Shift (crc8Shift (crc8Shift (crc8Shift c)))))))

/-- CRC-8 of R13: polynomial 07h, initial value 00h, no final inversion. -/
def crc8 (bytes : List Byte) : Byte := bytes.foldl crc8Byte 0x00

/-- The frame-start marker of frame `f`: sync byte 3Ch, the frame number, the check byte (R13, R172). -/
def markerBytes (f : FrameNo) : List Byte :=
  0x3C :: (halfBytes f ++ [crc8 (halfBytes f)])

/-- The 16-bit cell header: kind in bits 15 to 12, address in 11 to 7, token in 6 to 3, flags in 2 to 0 (R171). -/
def packHeader (kind : BitVec 4) (addr : BitVec 5) (token : Token) (flags : BitVec 3) : Half :=
  kind ++ addr ++ token ++ flags

/-- The kind field of a header (R171). -/
def headerKind (h : Half) : BitVec 4 := h.extractLsb' 12 4

/-- The address field of a header (R171). -/
def headerAddr (h : Half) : BitVec 5 := h.extractLsb' 7 5

/-- The token field of a header (R171). -/
def headerToken (h : Half) : Token := h.extractLsb' 3 4

/-- The check of a cell: CRC-16 over the 2 header bytes and the 8 payload bytes (R15, R171). -/
def cellCheck (header : Half) (payload : Buf) : Half := crc16 (halfBytes header ++ payload.bytes)

/-- The 12 bytes of a cell in the order they are sent (R171). -/
def cellBytes (header : Half) (payload : Buf) : List Byte :=
  halfBytes header ++ payload.bytes ++ halfBytes (cellCheck header payload)

/-- The address field that names a station (R171). -/
def addrField (a : StAddr) : BitVec 5 := BitVec.ofNat 5 (a.val + 1)

/-- The address byte that names a station in host-link messages (R72). -/
def addrByte (a : StAddr) : Byte := BitVec.ofNat 8 (a.val + 1)

/-- Kind codes of cells (Table 9.7). -/
def cellData : BitVec 4 := 1
/-- REQUEST (Table 9.7). -/
def cellRequest : BitVec 4 := 2
/-- ROLL (Table 9.7). -/
def cellRoll : BitVec 4 := 3
/-- PROBE (Table 9.7). -/
def cellProbe : BitVec 4 := 4
/-- NULL (Table 9.7). -/
def cellNull : BitVec 4 := 5
/-- DATA from a station (Table 9.7). -/
def cellUpData : BitVec 4 := 8
/-- ANSWER (Table 9.7). -/
def cellAnswer : BitVec 4 := 9
/-- IDENT (Table 9.7). -/
def cellIdent : BitVec 4 := 10
/-- HERE (Table 9.7). -/
def cellHere : BitVec 4 := 11

/-- LEN of a frame with this payload: the bytes from KIND to the end of the payload (R152). -/
def lenByte (payload : List Byte) : Byte := BitVec.ofNat 8 (payload.length + 2)

/-- The part of a frame that its CRC covers: LEN, KIND, TAG and the payload (R152). -/
def frameBody (kind tag : Byte) (payload : List Byte) : List Byte :=
  lenByte payload :: kind :: tag :: payload

/-- A host-link frame: A5h, the body, and its CRC most significant byte first (R152). -/
def frameBytes (kind tag : Byte) (payload : List Byte) : List Byte :=
  0xA5 :: (frameBody kind tag payload ++ halfBytes (crc16 (frameBody kind tag payload)))

/-- Whether a LEN byte names a frame length that exists: 2 to 254 (R153). -/
def lenLegal (len : Byte) : Bool := 2 ≤ len.toNat && len.toNat ≤ 254

/-- A character of the host link, its bits in the order of time from bit 0: start bit low, 8 data bits with the least
significant first, stop bit high (R151). -/
def charBits (b : Byte) : BitVec 10 := 1#1 ++ b ++ 0#1

/-- Whether a character begins in a character time: its start bit is low (R151). -/
def charStarts (c : BitVec 10) : Bool := !c.getLsbD 0

/-- A character error: the stop bit is low (R151). -/
def charBroken (c : BitVec 10) : Bool := !c.getLsbD 9

/-- The byte of a character (R151). -/
def charByte (c : BitVec 10) : Byte := c.extractLsb' 1 8

/-- A frame on the line of the host link: its bytes one character after another (R151, R152). -/
def lineChars (bytes : List Byte) : List (BitVec 10) := bytes.map charBits

/-- KIND of a reply (R165). -/
def kindReply : Byte := 0x80
/-- KIND of the BOOT frame (R165). -/
def kindBoot : Byte := 0xA0

end Sys2Proof.Machine
end

