-- ==== Sys2Proof/WellFormed.lean ====
section
/-! DEFINITION. Which commands can arrive at all. A command that is not well-formed stands for no frame that a line
can carry (R152) or for an event of another row (R153, R156). -/

namespace Sys2Proof

/-- A frame carries at most 252 payload bytes (R152). -/
def payloadFits (payload : List Byte) : Bool := payload.length ≤ Config.payloadLimit

/-- The check on a command (R152, R153, R156): payloads fit a frame, UNKNOWN_KIND has a KIND that is no request
code, CRC_ERROR has a body that LEN can count and a CRC that disagrees, FORMAT_ERROR has an illegal LEN. -/
def Instr.wellFormed : Instr → Bool
  | .hello _ p => payloadFits p
  | .status _ p => payloadFits p
  | .restart _ p => payloadFits p
  | .credit _ p => payloadFits p
  | .configure _ p => payloadFits p
  | .start _ p => payloadFits p
  | .stop _ p => payloadFits p
  | .defineCircuit _ p => payloadFits p
  | .dropCircuit _ p => payloadFits p
  | .setOpen _ p => payloadFits p
  | .adopt _ p => payloadFits p
  | .revert _ p => payloadFits p
  | .put _ p => payloadFits p
  | .purge _ p => payloadFits p
  | .readCircuit _ p => payloadFits p
  | .admitStation _ p => payloadFits p
  | .excludeStation _ p => payloadFits p
  | .releaseStation _ p => payloadFits p
  | .queryStation _ p => payloadFits p
  | .transact _ p => payloadFits p
  | .cancel _ p => payloadFits p
  | .batchLoad _ p => payloadFits p
  | .batchPreset _ p => payloadFits p
  | .batchRun _ p => payloadFits p
  | .batchAbort _ p => payloadFits p
  | .unknownKind kind _ p => !requestKinds.contains kind && payloadFits p
  | .backlogDiscard => true
  | .crcError body crc =>
    2 ≤ body.length && body.length ≤ Config.payloadLimit + 2
      && Machine.crc16 (BitVec.ofNat 8 body.length :: body) != crc
  | .formatError (.illegalLen len) => !Machine.lenLegal len
  | .formatError .character => true
  | .interByteTimeout => true
  | .powerOnReset _ _ _ => true
  | .resetPinAssert => true
  | .resetPinRelease _ _ => true
  | .bootTransmit => true
  | .bootSent => true
  | .replyTransmit => true
  | .replySent => true
  | .noticeTransmit => true
  | .noticeSent => true
  | .batchRoomOffer => true
  | .frameStart => true
  | .enterRunning => true
  | .adoptionAtRoundStart => true
  | .deferTimeout => true
  | .batchItemTimeout => true
  | .slotOpen => true
  | .slotClose _ => true
  | .collision => true
  | .stopComplete => true

end Sys2Proof
end

