-- ==== Sys2Proof/Decode.lean ====
section
/-! DEFINITION. Decoding. opcode_table.json gives no row any bits, so no word spells a command. What does spell a
command on this part is a whole frame on the host link: `receiveFrame` is the receiver of R153 and R156 on one
frame's bytes, and `requestFrame` writes the frame of a request from R152, R165 and R166. -/

namespace Sys2Proof

/-- The command that a word spells by the table's bits. No row of opcode_table.json gives bits (every "fields" list
is empty and no row has "fixed"), so no word spells one. -/
def decodeTableWord (_nbits _w : Nat) : Option Instr := none

/-- The request row that a KIND byte names, and UNKNOWN_KIND for every other KIND (R156, R165). -/
def requestOfKind (kind tag : Byte) (payload : List Byte) : Instr :=
  match kind.toNat with
  | 0x01 => .hello tag payload
  | 0x02 => .status tag payload
  | 0x03 => .restart tag payload
  | 0x04 => .credit tag payload
  | 0x08 => .configure tag payload
  | 0x09 => .start tag payload
  | 0x0A => .stop tag payload
  | 0x10 => .defineCircuit tag payload
  | 0x11 => .dropCircuit tag payload
  | 0x12 => .setOpen tag payload
  | 0x13 => .adopt tag payload
  | 0x14 => .revert tag payload
  | 0x18 => .put tag payload
  | 0x19 => .purge tag payload
  | 0x1A => .readCircuit tag payload
  | 0x20 => .admitStation tag payload
  | 0x21 => .excludeStation tag payload
  | 0x22 => .releaseStation tag payload
  | 0x23 => .queryStation tag payload
  | 0x28 => .transact tag payload
  | 0x29 => .cancel tag payload
  | 0x30 => .batchLoad tag payload
  | 0x31 => .batchPreset tag payload
  | 0x32 => .batchRun tag payload
  | 0x33 => .batchAbort tag payload
  | _ => .unknownKind kind tag payload

/-- The row that a whole frame amounts to: the request that its KIND names where the CRC received agrees with the one over
LEN, KIND, TAG and payload, else CRC_ERROR; no row for a body without KIND and TAG, which no legal LEN gives (R153,
R156). -/
def wholeFrame (len : Byte) (body : List Byte) (crc : Half) : Option Instr :=
  if Machine.crc16 (len :: body) = crc then
    match body with
    | kind :: tag :: payload => some (requestOfKind kind tag payload)
    | _ => none
  else some (.crcError body crc)

/-- The row that the bytes after an A5h amount to once they end a frame: an illegal LEN at once, else with the second CRC
byte (R153). -/
def frameEnd : List Byte → Option Instr
  | [] => none
  | len :: after =>
    if Machine.lenLegal len then
      match after.drop len.toNat with
      | [hi, lo] => wholeFrame len (after.take len.toNat) (hi ++ lo)
      | _ => none
    else some (.formatError (.illegalLen len))

/-- The receiver on the bytes of one transmission that begins while it hunts (R153): bytes before A5h are discarded;
an illegal LEN is a format error; LEN bytes and two CRC bytes follow; the CRC decides. `none`: no frame has ended
yet (no A5h, or fewer bytes than LEN asks for). -/
def receiveFrame : List Byte → Option Instr
  | [] => none
  | b :: rest =>
    if b = 0xA5 then
      match rest with
      | [] => none
      | len :: after =>
        if Machine.lenLegal len then
          let body := after.take len.toNat
          match after.drop len.toNat with
          | hi :: lo :: _ => wholeFrame len body (hi ++ lo)
          | _ => none
        else some (.formatError (.illegalLen len))
    else receiveFrame rest

/-- KIND, TAG and payload of the frame that carries a command, for the rows that are good frames (R165). -/
def requestParts : Instr → Option (Byte × Byte × List Byte)
  | .hello t p => some (0x01, t, p)
  | .status t p => some (0x02, t, p)
  | .restart t p => some (0x03, t, p)
  | .credit t p => some (0x04, t, p)
  | .configure t p => some (0x08, t, p)
  | .start t p => some (0x09, t, p)
  | .stop t p => some (0x0A, t, p)
  | .defineCircuit t p => some (0x10, t, p)
  | .dropCircuit t p => some (0x11, t, p)
  | .setOpen t p => some (0x12, t, p)
  | .adopt t p => some (0x13, t, p)
  | .revert t p => some (0x14, t, p)
  | .put t p => some (0x18, t, p)
  | .purge t p => some (0x19, t, p)
  | .readCircuit t p => some (0x1A, t, p)
  | .admitStation t p => some (0x20, t, p)
  | .excludeStation t p => some (0x21, t, p)
  | .releaseStation t p => some (0x22, t, p)
  | .queryStation t p => some (0x23, t, p)
  | .transact t p => some (0x28, t, p)
  | .cancel t p => some (0x29, t, p)
  | .batchLoad t p => some (0x30, t, p)
  | .batchPreset t p => some (0x31, t, p)
  | .batchRun t p => some (0x32, t, p)
  | .batchAbort t p => some (0x33, t, p)
  | .unknownKind k t p => some (k, t, p)
  | .backlogDiscard => none
  | .crcError _ _ => none
  | .formatError _ => none
  | .interByteTimeout => none
  | .powerOnReset _ _ _ => none
  | .resetPinAssert => none
  | .resetPinRelease _ _ => none
  | .bootTransmit => none
  | .bootSent => none
  | .replyTransmit => none
  | .replySent => none
  | .noticeTransmit => none
  | .noticeSent => none
  | .batchRoomOffer => none
  | .frameStart => none
  | .enterRunning => none
  | .adoptionAtRoundStart => none
  | .deferTimeout => none
  | .batchItemTimeout => none
  | .slotOpen => none
  | .slotClose _ => none
  | .collision => none
  | .stopComplete => none

/-- The bytes of the frame that carries a command, for the rows that are good frames (R152, R165). -/
def requestFrame (i : Instr) : Option (List Byte) :=
  (requestParts i).map fun (kind, tag, payload) => Machine.frameBytes kind tag payload

end Sys2Proof
end

