-- ==== Sys2Proof/Machine/State.lean ====
section
/-! DEFINITION. The state of the TZC4120, block by block, as plain data, and its value right after a power-on reset. -/

namespace Sys2Proof.Machine

/-! ### Trunk port (R1 to R22) -/

/-- Bit rates of the trunk (R1). -/
inductive BitRate where
  | mbit2
  | mbit5
  | mbit10
deriving DecidableEq, Repr

/-- The configuration record (R1). The period is a count of 10 µs units. -/
structure ConfigRecord where
  rate : BitRate
  slots : Nat
  period : Nat
  missThreshold : Nat
  lossLimit : Nat
  retryLimit : Nat
  deferWindow : Nat
deriving DecidableEq, Repr

/-- Trunk states (R4, Table 1.2). -/
inductive TrunkState where
  | off
  | ready
  | starting
  | running
  | halted
deriving DecidableEq, Repr

/-- The frame timer (R10): disarmed, armed so that its next expiry opens frame 0 (R5, R11), or armed for a later
frame. -/
inductive Timer where
  | disarmed
  | firstFrame
  | nextFrame
deriving DecidableEq, Repr

/-- The mode of an open slot with the owner of its use (R14, Table 1.3, Table 1.4). -/
inductive SlotMode where
  /-- transmit: the cell at `position` of OUT circuit `id` -/
  | sendCircuit (id : CircuitId) (position : Nat)
  /-- transmit: an OPEN slot's cell -/
  | sendPair
  /-- listen: DATA from `source` for IN circuit `id` -/
  | listenCircuit (id : CircuitId) (position : Nat) (source : StAddr)
  /-- listen: the REPLY slot of the pair in progress -/
  | listenReply
  | quiet
deriving DecidableEq, Repr

/-- The place within a frame (R7, R10, R14). -/
inductive FramePos where
  /-- no frame in progress: idle line, or no frame running -/
  | idle
  /-- the marker is being sent; `adopting`: a pending adoption is to be carried out at this frame start (R39) -/
  | marker (adopting : Bool)
  | slotOpen (k : Nat) (mode : SlotMode)
  | slotClosed (k : Nat)
deriving DecidableEq, Repr

/-- Who uses a pair (R95, R96); for a transaction, what the pair record names (R94, R126). -/
inductive PairUser where
  | rollCall
  | presenceCheck
  | hostRecord (tag : Byte)
  | batchItem (pass : Nat) (index : Nat)
deriving DecidableEq, Repr

/-- The pair in progress: its user, and the address and token that the port expects in the REPLY slot (R15, R94). -/
structure Pair where
  user : PairUser
  station : StAddr
  token : Token
deriving DecidableEq, Repr

/-- The trunk port. -/
structure Port where
  config : Option ConfigRecord
  trunk : TrunkState
  stopPending : Bool
  timer : Timer
  frameNo : FrameNo
  /-- collision streak, 0 to 3 (R19) -/
  streak : Nat
  /-- collided-this-frame flag (R19) -/
  collided : Bool
  /-- the marker or cell being sent has been counted as colliding (R19) -/
  hit : Bool
  pos : FramePos
  /-- the marker or cell that is being driven on TTX with TDE high; `none`: TDE and TTX low (R13, R15, R22) -/
  tx : Option (List Byte)
  pair : Option Pair
  badCells : Half
  silentSlots : Half
  collisions : Half
deriving DecidableEq, Repr

/-! ### Schedule and circuits (R23 to R71) -/

/-- The destination of an OUT circuit: a station, or 31 for broadcast (R24). -/
inductive Dest where
  | station (a : StAddr)
  | broadcast
deriving DecidableEq, Repr

/-- Direction and station of a circuit, with the field that only that direction has (R24). -/
inductive CircuitEnds where
  | out (dest : Dest) (depth : Nat)
  | inn (source : StAddr) (filter : Bool)
deriving DecidableEq, Repr

/-- A circuit definition; its id is its place in the schedule's table (R24). -/
structure CircuitDef where
  ends : CircuitEnds
  divisor : Nat
  phase : Nat
  slots : List Nat
deriving DecidableEq, Repr

/-- Run state of a live circuit (R51). -/
inductive RunState where
  | running
  | stalled
deriving DecidableEq, Repr

/-- Kind of an OUT unit in flight (R49, R58). -/
inductive FlightKind where
  | data
  | hold
deriving DecidableEq, Repr

/-- An OUT unit in flight: its w cells, which for DATA are its w pool buffers and for HOLD are held outside the
pool, and how many positions have been sent (R49). -/
structure Flight where
  kind : FlightKind
  cells : List Buf
  sent : Nat
deriving DecidableEq, Repr

/-- Status of one slot position of an IN assembly (R49). -/
inductive SlotStatus where
  | pending
  | good
  | bad
  | silent
deriving DecidableEq, Repr

/-- An IN unit being received: w claimed buffers or none, and a status per position (R49, R62). -/
structure Assembly where
  bufs : Option (List Buf)
  status : List SlotStatus
deriving DecidableEq, Repr

/-- The six counters of a circuit (R50). -/
structure CircuitCounters where
  sent : Half
  holds : Half
  underruns : Half
  delivered : Half
  suppressed : Half
  dropped : Half
deriving DecidableEq, Repr

/-- Runtime state of a live circuit (R49). -/
structure CircuitRun where
  runState : RunState
  queue : List (List Buf)
  flight : Option Flight
  lastSent : Option (List Buf)
  assembly : Option Assembly
  lastDelivered : Option (List Buf)
  lossReported : Bool
  counters : CircuitCounters
deriving DecidableEq, Repr

/-- A live circuit: its live definition and its runtime state, which exists only with it (R49). -/
structure LiveCircuit where
  defn : CircuitDef
  run : CircuitRun
deriving DecidableEq, Repr

/-- The live schedule (R23). -/
structure LiveSchedule where
  circuits : Table (Option LiveCircuit) 32
  pairs : List Nat
deriving DecidableEq, Repr

/-- The draft (R23). -/
structure Draft where
  circuits : Table (Option CircuitDef) 32
  pairs : List Nat
deriving DecidableEq, Repr

/-- The schedule block. -/
structure Sched where
  live : Option LiveSchedule
  draft : Draft
  adoptPending : Bool
deriving DecidableEq, Repr

/-! ### Station roster (R72 to R93) -/

/-- Station states (R72). -/
inductive StationState where
  | absent
  | found
  | active
  | faulty
  | lost
  | excluded
deriving DecidableEq, Repr

/-- An identity record (R72, R81). -/
structure Identity where
  class_ : Half
  revision : Byte
  serial : BitVec 32
  profile : Byte
deriving DecidableEq, Repr

/-- Source named by an outstanding marker (R73). -/
inductive MarkerSource where
  | host
  | batch
deriving DecidableEq, Repr

/-- An outstanding marker (R73). -/
structure Marker where
  source : MarkerSource
  tag : Byte
deriving DecidableEq, Repr

/-- A station entry (R72). -/
structure StationEntry where
  state : StationState
  missCount : Nat
  sinceHeard : Nat
  identity : Option Identity
  autoRejoin : Bool
  marker : Option Marker
deriving DecidableEq, Repr

/-- The station roster. -/
structure Roster where
  entries : Table StationEntry 30
  rollCursor : StAddr
  presenceCursor : StAddr
deriving DecidableEq, Repr

/-! ### Transaction engine (R94 to R117) -/

/-- Actions of a transaction (R97). -/
inductive Action where
  | fetch
  | store
  | swap
deriving DecidableEq, Repr

/-- What a transaction asks of a station: host record or batch item (R97, R118). -/
structure TxnRequest where
  station : StAddr
  action : Action
  object : BitVec 12
  data : List Byte
deriving DecidableEq, Repr

/-- State of a transaction; QUEUED is called PENDING for a batch item (R97, R118). -/
inductive AttemptState where
  | queued
  | issued
  | waiting
deriving DecidableEq, Repr

/-- The fields that a host record and a current batch item share (R97, R118). -/
structure Attempt where
  state : AttemptState
  failures : Nat
  deferred : Bool
  firstIssue : Option FrameNo
  token : Option Token
  dueFrame : Option FrameNo
  due : Bool
deriving DecidableEq, Repr

/-- A host transaction record (R97). -/
structure HostRecord where
  tag : Byte
  request : TxnRequest
  attempt : Attempt
deriving DecidableEq, Repr

/-- Whom the arbiter asks first (R94). -/
inductive Turn where
  | host
  | batch
deriving DecidableEq, Repr

/-- The transaction engine. -/
structure Engine where
  queue : List HostRecord
  tokens : Table Token 30
  turn : Turn
  strays : Half
deriving DecidableEq, Repr

/-! ### Batch unit (R118 to R133) -/

/-- Outcome codes (R107). -/
inductive TxnOutcome where
  | done
  | rejected
  | noAnswer
  | timedOut
  | stationLost
  | stationExcluded
  | stationUnavailable
  | cancelled
  | cancelledUncertain
  | trunkStopped
  | trunkHalted
  | aborted
  | notRun
deriving DecidableEq, Repr

/-- End causes of a pass (R130). -/
inductive EndCause where
  | complete
  | failedStop
  | aborted
  | trunkStopped
  | trunkHalted
deriving DecidableEq, Repr

/-- Failure policy of a batch (R119). -/
inductive Policy where
  | stop
  | continue_
deriving DecidableEq, Repr

/-- A stored batch: its items in list order and its policy (R118). -/
structure BatchList where
  items : List TxnRequest
  policy : Policy
deriving DecidableEq, Repr

/-- The outcome of an item with its 0 to 4 data bytes (R118). -/
structure ItemOutcome where
  outcome : TxnOutcome
  data : List Byte
deriving DecidableEq, Repr

/-- The current item: its index in the list, counted from 1, and its state (R118). -/
structure CurrentItem where
  index : Nat
  attempt : Attempt
deriving DecidableEq, Repr

/-- The run record (R118). An outcome entry of NONE is `none`. -/
structure BatchRun where
  tag : Byte
  passes : Nat
  pass : Nat
  current : Option CurrentItem
  waiting : Bool
  abort : Bool
  decided : Option EndCause
  outcomes : List (Option ItemOutcome)
deriving DecidableEq, Repr

/-- Batch state: the list is absent in EMPTY, the run record absent unless RUNNING (R118). -/
inductive BatchState where
  | empty
  | loaded (list : BatchList)
  | running (list : BatchList) (run : BatchRun)
deriving DecidableEq, Repr

/-- The batch unit. -/
structure BatchUnit where
  state : BatchState
  preset : Nat
deriving DecidableEq, Repr

/-! ### Cell pool and delivery queue (R134 to R150) -/

/-- Events of a station entry (R90). -/
inductive StationEvent where
  | found
  | faulty
  | recovered
  | lost
  | rejoined
deriving DecidableEq, Repr

/-- Where a line fault was seen (R20). -/
inductive FaultPos where
  | marker
  | slot (k : Nat)
deriving DecidableEq, Repr

/-- Causes of a LOSS event (R67). -/
inductive LossCause where
  | underrun
  | noBuffer
  | noRoom
deriving DecidableEq, Repr

/-- The four folded counts (R138). -/
structure Folded where
  station : Half
  trunk : Half
  schedule : Half
  loss : Half
deriving DecidableEq, Repr

/-- Event records (R141). A TRUNK record has a fault position exactly when its cause is LINE_FAULT. -/
inductive EventRecord where
  | station (a : StAddr) (event : StationEvent) (replaced : Bool) (frame : FrameNo) (identity : Option Identity)
  | trunk (state : TrunkState) (frame : FrameNo) (fault : Option FaultPos)
  | schedule (frame : FrameNo) (closed : List CircuitId)
  | loss (id : CircuitId) (cause : LossCause) (frame : FrameNo)
deriving DecidableEq, Repr

/-- Records of the delivery queue (R138, Table 7.3). -/
inductive DeliveryRecord where
  | data (id : CircuitId) (frame : FrameNo) (status : List SlotStatus) (bufs : List Buf)
  | done (tag : Byte) (outcome : TxnOutcome) (reason : Byte) (data : List Byte)
  | pass (tag : Byte) (pass : Nat) (final : Bool) (cause : EndCause) (outcomes : List ItemOutcome)
  | event (e : EventRecord)
  | overflow (folded : Folded)
deriving DecidableEq, Repr

/-- The cell pool and delivery queue. -/
structure Delivery where
  free : Nat
  records : List DeliveryRecord
  hostRes : Nat
  batchRes : Bool
  folded : Folded
  credits : Nat
deriving DecidableEq, Repr

/-! ### Host link (R151 to R164) -/

/-- Host link rates (R151, Table 8.1). -/
inductive LinkRate where
  | baud115200
  | baud460800
  | baud1000000
  | baud3000000
deriving DecidableEq, Repr

/-- The receiver's condition (R153): hunting, or in a frame of which these bytes have come since its A5h. -/
inductive Receiver where
  | hunting
  | inFrame (gathered : List Byte)
deriving DecidableEq, Repr

/-- Result codes of replies (R156, R168). -/
inductive ResultCode where
  | ok
  | accepted
  | unknownKind
  | badLength
  | badField
  | wrongState
  | busy
  | tagBusy
  | queueFull
  | poolLow
  | noRoom
  | notFound
  | tooLate
  | conflict
deriving DecidableEq, Repr

/-- A reply formed and not yet sent whole (R157). -/
structure Reply where
  tag : Byte
  result : ResultCode
  detail : Byte
  data : List Byte
deriving DecidableEq, Repr

/-- Causes of a reset (R163). -/
inductive BootCause where
  | power
  | pin
  | soft
deriving DecidableEq, Repr

/-- What the transmitter is sending (R159). -/
inductive TxKind where
  | boot
  | reply
  | notice
deriving DecidableEq, Repr

/-- A frame in transmission on HTX, with its bytes (R152, R159). -/
structure TxFrame where
  kind : TxKind
  bytes : List Byte
deriving DecidableEq, Repr

/-- The RESET pin: released, held low after a pin assertion, or held low since power-on (R22, R163). -/
inductive ResetPin where
  | released
  | held
  | heldFromPowerOn
deriving DecidableEq, Repr

/-- The host link. -/
structure Link where
  rate : LinkRate
  receiver : Receiver
  replies : List Reply
  restartPending : Bool
  tags : List Byte
  boot : Option BootCause
  tx : Option TxFrame
  timeouts : Half
  crcErrors : Half
  formatErrors : Half
  backlog : Half
  pin : ResetPin
deriving DecidableEq, Repr

/-! ### The machine -/

/-- What happens on the part's lines at a moment for which the table has no row (log entry 1). -/
inductive Moment where
  /-- a character time on HRX, its ten bits in the order of time, bit 0 first: start bit, 8 data bits, stop bit
  (R151) -/
  | hrxChar (bits : BitVec 10)
  /-- more than 2 ms on HRX with no next character (R154) -/
  | hrxGap
  /-- a cell begins on TRX (R18) -/
  | trxCell
  /-- the last bit of the marker or cell on TTX ends (R13, R15) -/
  | ttxEnd
deriving DecidableEq, Repr

/-- The state of the part, and what waits outside it or stands for its freedom: the count of free choices made so far
(`draws`, log entry 4), the moments on its lines that are to come (`moments`, log entry 1) and the queue of commands
that wait (`pending`, log entry 1). -/
structure State where
  port : Port
  sched : Sched
  roster : Roster
  engine : Engine
  batch : BatchUnit
  delivery : Delivery
  link : Link
  draws : Nat
  moments : List Moment
  pending : List Instr
deriving DecidableEq, Repr

/-- The part never stops by itself: a line fault is a transition to HALTED (R20) and a refused request is a reply
(R156). Raised by nobody; the type is empty, which is safe. -/
inductive Fault where
deriving DecidableEq, Repr

/-- Refusals. -/
inductive Refusal where
  /-- A command that has no meaning yet, by its mnemonic. Raised by `exec`'s arms alone; safe. -/
  | notModelled (mnemonic : String)
deriving DecidableEq, Repr

/-! ### Reset values -/

/-- The trunk port after any reset (R22). -/
def Port.atReset : Port where
  config := none
  trunk := .off
  stopPending := false
  timer := .disarmed
  frameNo := 0
  streak := 0
  collided := false
  hit := false
  pos := .idle
  tx := none
  pair := none
  badCells := 0
  silentSlots := 0
  collisions := 0

/-- The schedule block after any reset (R23). -/
def Sched.atReset : Sched where
  live := none
  draft := ⟨Table.replicate 32 none, []⟩
  adoptPending := false

/-- A station entry after any reset (R72). -/
def StationEntry.atReset : StationEntry where
  state := .absent
  missCount := 0
  sinceHeard := 0
  identity := none
  autoRejoin := false
  marker := none

/-- The station roster after any reset (R72, R92). Cursor value 0 is address 1. -/
def Roster.atReset : Roster where
  entries := Table.replicate 30 StationEntry.atReset
  rollCursor := 0
  presenceCursor := 0

/-- The transaction engine after any reset (R94). -/
def Engine.atReset : Engine where
  queue := []
  tokens := Table.replicate 30 0
  turn := .host
  strays := 0

/-- The batch unit after any reset (R118, R133). -/
def BatchUnit.atReset : BatchUnit where
  state := .empty
  preset := 0

/-- The four folded counts at 0 (R138, R145). -/
def Folded.zero : Folded := ⟨0, 0, 0, 0⟩

/-- The cell pool and delivery queue after any reset (R134, R138, R149). -/
def Delivery.atReset : Delivery where
  free := Config.poolBuffers
  records := []
  hostRes := 0
  batchRes := false
  folded := Folded.zero
  credits := 0

/-- The host link after a power-on reset or the release of the RESET pin (R164). -/
def Link.atReset (rate : LinkRate) (cause : BootCause) : Link where
  rate := rate
  receiver := .hunting
  replies := []
  restartPending := false
  tags := []
  boot := some cause
  tx := none
  timeouts := 0
  crcErrors := 0
  formatErrors := 0
  backlog := 0
  pin := .released

/-- The part right after a power-on reset with RESET high (R164). The straps are pins whose level the manual does
not give: DESIGN CHOICE both low (log entry 8), unsafe. -/
def State.reset : State where
  port := Port.atReset
  sched := Sched.atReset
  roster := Roster.atReset
  engine := Engine.atReset
  batch := BatchUnit.atReset
  delivery := Delivery.atReset
  link := Link.atReset .baud115200 .power
  draws := 0
  moments := []
  pending := []

end Sys2Proof.Machine
end

