-- ==== Sys2Proof/Machine/Flags.lean ====
section
/-! DEFINITION. Counters and flags: the saturating counters (R21, R50, R94, R141, R164) and the flag computations
of cells and records (R59, R101, R106). -/

namespace Sys2Proof.Machine

/-- A 16-bit counter goes up by 1 and stays at 65 535 once there (R21, R50, R94, R141, R164). -/
def satInc (c : Half) : Half := if c = 0xFFFF then c else c + 1

/-- A 16-bit counter goes up by 1 when an event is counted, and keeps its value otherwise. -/
def satIncIf (counted : Bool) (c : Half) : Half := if counted then satInc c else c

/-- A 16-bit counter goes up by `n` and stays at 65 535 once there (R21). -/
def satAdd (n : Nat) (c : Half) : Half := BitVec.ofNat 16 (min 65535 (c.toNat + n))

/-- Flags of an OUT DATA cell: bit 0 FIRST at position 0, bit 1 LAST at position `w - 1`, bit 2 HOLD (R59). -/
def outFlags (kind : FlightKind) (position width : Nat) : BitVec 3 :=
  BitVec.ofBool (kind == .hold) ++ BitVec.ofBool (position + 1 == width) ++ BitVec.ofBool (position == 0)

/-- The age of a transaction at frame `f`: the frame now starting minus the first-issue frame, modulo 65 536
(R106, R127). -/
def ageAt (f firstIssue : FrameNo) : Nat := (f - firstIssue).toNat

/-- A WAITING transaction whose defer flag is set and whose age has reached the defer window (R106, R127). -/
def Attempt.timedOutAt (f : FrameNo) (window : Nat) (a : Attempt) : Bool :=
  a.state == .waiting && a.deferred &&
    match a.firstIssue with
    | some g => decide (window ≤ ageAt f g)
    | none => false

/-- The due flag is set at the start of the due frame, for a WAITING transaction that does not time out there
(R101, R127). -/
def Attempt.markDueAt (f : FrameNo) (window : Nat) (a : Attempt) : Attempt :=
  if a.state == .waiting && a.dueFrame == some f && !a.timedOutAt f window then { a with due := true } else a

/-- Whether a frame number opens a round: a multiple of 16 (R12). -/
def roundStart (f : FrameNo) : Bool := f.toNat % 16 == 0

/-- Whether the round that frame `f` belongs to is even (R12). -/
def evenRound (f : FrameNo) : Bool := f.toNat / 16 % 2 == 0

end Sys2Proof.Machine
end

