-- ==== Sys2Proof/Machine/Ops.lean ====
section
/-! DEFINITION. Shared operations on the state: one setter per block, the pool and the delivery queue (R134 to R147),
the tag table (R158), the trunk port's line and the configuration record. -/

namespace Sys2Proof.Machine

/-! ### One setter per block -/

/-- The state with its trunk port replaced. -/
def State.withPort (s : State) (p : Port) : State := { s with port := p }
/-- The state with its schedule block replaced. -/
def State.withSched (s : State) (c : Sched) : State := { s with sched := c }
/-- The state with its roster replaced. -/
def State.withRoster (s : State) (r : Roster) : State := { s with roster := r }
/-- The state with its transaction engine replaced. -/
def State.withEngine (s : State) (e : Engine) : State := { s with engine := e }
/-- The state with its batch unit replaced. -/
def State.withBatch (s : State) (b : BatchUnit) : State := { s with batch := b }
/-- The state with its delivery queue and pool replaced. -/
def State.withDelivery (s : State) (d : Delivery) : State := { s with delivery := d }
/-- The state with its host link replaced. -/
def State.withLink (s : State) (l : Link) : State := { s with link := l }
/-- The state with its count of free choices replaced. -/
def State.withDraws (s : State) (n : Nat) : State := { s with draws := n }
/-- The state with its moments to come replaced. -/
def State.withMoments (s : State) (m : List Moment) : State := { s with moments := m }
/-- The state with its queue of commands replaced. -/
def State.withPending (s : State) (q : List Instr) : State := { s with pending := q }

/-! ### Configuration record and frame number -/

/-- What stands for the configuration record where it is absent. The record is present whenever the trunk is not OFF
(R3, R4), so no run reads this (log entry 13). -/
def ConfigRecord.ifAbsent : ConfigRecord := ⟨.mbit2, 0, 0, 0, 0, 0, 0⟩

/-- The configuration record that a block reads at the moment it uses a field (R1). -/
def State.cfg (s : State) : ConfigRecord := s.port.config.getD ConfigRecord.ifAbsent

/-- The number of the frame in progress, or of the last frame that started (R11). -/
def State.frame (s : State) : FrameNo := s.port.frameNo

/-- Whether frames run: the trunk is STARTING or RUNNING (R9). -/
def TrunkState.framesRun : TrunkState → Bool
  | .starting => true
  | .running => true
  | .off => false
  | .ready => false
  | .halted => false

/-! ### Cell pool (R134 to R137) -/

/-- `n` buffers return to the pool (R136). -/
def Delivery.giveBack (n : Nat) (d : Delivery) : Delivery := { d with free := d.free + n }

/-- Whether an outbound claim of `w` buffers is granted: the free count minus `w` is 64 or more (R135). -/
def Delivery.outboundClaim (w : Nat) (d : Delivery) : Bool := decide (w + Config.inboundReserve ≤ d.free)

/-- Whether an inbound claim of `w` buffers is granted: the free count is `w` or more (R135). -/
def Delivery.inboundClaim (w : Nat) (d : Delivery) : Bool := decide (w ≤ d.free)

/-- Buffers held by a record: w for DATA, none for every other kind (R134, R144). -/
def DeliveryRecord.held : DeliveryRecord → Nat
  | .data _ _ _ bufs => bufs.length
  | .done _ _ _ _ => 0
  | .pass _ _ _ _ _ => 0
  | .event _ => 0
  | .overflow _ => 0

/-- Buffers held by all records (R134). -/
def Delivery.held (d : Delivery) : Nat := (d.records.map DeliveryRecord.held).sum

/-! ### Delivery queue (R138 to R147) -/

/-- The occupancy: records plus reservations (R138). -/
def Delivery.occupancy (d : Delivery) : Nat := d.records.length + d.hostRes + d.batchRes.toNat

/-- Whether an entry is free: the occupancy is below 128 (R139, R141). -/
def Delivery.hasRoom (d : Delivery) : Bool := decide (d.occupancy < Config.deliveryEntries)

/-- Whether a DATA record may be appended: the occupancy is below 96 (R140). -/
def Delivery.belowHighMark (d : Delivery) : Bool := decide (d.occupancy < Config.highMark)

/-- The record goes to the tail of the list. -/
def Delivery.append (r : DeliveryRecord) (d : Delivery) : Delivery := { d with records := d.records ++ [r] }

/-- The folded count of an event's kind goes up by 1 (R141). -/
def Folded.bump (e : EventRecord) (f : Folded) : Folded :=
  match e with
  | .station _ _ _ _ _ => { f with station := satInc f.station }
  | .trunk _ _ _ => { f with trunk := satInc f.trunk }
  | .schedule _ _ => { f with schedule := satInc f.schedule }
  | .loss _ _ _ => { f with loss := satInc f.loss }

/-- An event record is offered: appended below occupancy 128, folded at 128 (R141). -/
def Delivery.offerEvent (e : EventRecord) (d : Delivery) : Delivery :=
  if d.hasRoom then d.append (.event e) else { d with folded := d.folded.bump e }

/-- TRANSACT's acceptance reserves one entry (R139). -/
def Delivery.reserveHost (d : Delivery) : Delivery := { d with hostRes := d.hostRes + 1 }

/-- A pass takes its reservation (R123, R139). -/
def Delivery.reserveBatch (d : Delivery) : Delivery := { d with batchRes := true }

/-- A DONE record takes the place of one host reservation (R139). -/
def Delivery.appendDone (tag : Byte) (o : TxnOutcome) (reason : Byte) (data : List Byte) (d : Delivery) : Delivery :=
  ({ d with hostRes := d.hostRes - 1 } : Delivery).append (.done tag o reason data)

/-- A PASS record takes the place of the batch reservation (R130, R139). -/
def Delivery.appendPass (tag : Byte) (pass : Nat) (final : Bool) (cause : EndCause) (outcomes : List ItemOutcome)
    (d : Delivery) : Delivery :=
  ({ d with batchRes := false } : Delivery).append (.pass tag pass final cause outcomes)

/-- The head record is removed and a DATA record's buffers return to the pool (R144). -/
def Delivery.removeHead (d : Delivery) : Delivery :=
  match d.records with
  | [] => d
  | r :: rest => { d with records := rest, free := d.free + r.held }

/-- With any folded count above 0 the freed place takes an OVERFLOW record and the counts go to 0 (R144, R145). -/
def Delivery.offerOverflow (d : Delivery) : Delivery :=
  if d.folded = Folded.zero then d
  else ({ d with folded := Folded.zero } : Delivery).append (.overflow d.folded)

/-- CREDIT raises the counter by `n`, not above 255 (R146). -/
def Delivery.addCredits (n : Nat) (d : Delivery) : Delivery :=
  { d with credits := min Config.creditLimit (d.credits + n) }

/-- A notice's transmission spends one credit (R143). -/
def Delivery.spendCredit (d : Delivery) : Delivery := { d with credits := d.credits - 1 }

/-- The state's delivery block changed by `f`. -/
def State.onDelivery (f : Delivery → Delivery) (s : State) : State := s.withDelivery (f s.delivery)

/-- An event record is offered to the delivery queue (R141). -/
def State.offerEvent (e : EventRecord) (s : State) : State := s.onDelivery (Delivery.offerEvent e)

/-! ### Tag table (R158) -/

/-- The tag is held by an operation in progress (R158). -/
def State.tagHeld (tag : Byte) (s : State) : Bool := s.link.tags.contains tag

/-- A tag enters the table (R158). -/
def State.holdTag (tag : Byte) (s : State) : State :=
  s.withLink { s.link with tags := s.link.tags ++ [tag] }

/-- A tag leaves the table (R158). -/
def State.releaseTag (tag : Byte) (s : State) : State :=
  s.withLink { s.link with tags := s.link.tags.erase tag }

/-! ### The port's line (R13, R15, R20) -/

/-- The port drives a marker or a cell: TDE high, the bytes on TTX, no collision counted in it yet (R13, R15, R19). -/
def Port.drive (bytes : List Byte) (p : Port) : Port := { p with tx := some bytes, hit := false }

/-- TDE and TTX low (R13, R15, R20). -/
def Port.release (p : Port) : Port := { p with tx := none, hit := false }

end Sys2Proof.Machine
end

