-- ==== Sys2Proof/Machine/CircuitOps.lean ====
section
/-! DEFINITION. The circuits block: buffers held, stall and resume, OUT units, IN assemblies, losses (R49 to R70). -/

namespace Sys2Proof.Machine

/-! ### Definitions (R24, R26) -/

/-- The width w: the number of slots in the slot list (R24). -/
def CircuitDef.width (c : CircuitDef) : Nat := c.slots.length

/-- The due test (R26). -/
def CircuitDef.due (f : FrameNo) (c : CircuitDef) : Bool := f.toNat % c.divisor == c.phase

/-- Whether the direction is OUT (R24). -/
def CircuitDef.isOut (c : CircuitDef) : Bool :=
  match c.ends with
  | .out _ _ => true
  | .inn _ _ => false

/-- The one station of a circuit; a broadcast OUT circuit has none (R51). -/
def CircuitDef.station? (c : CircuitDef) : Option StAddr :=
  match c.ends with
  | .out (.station a) _ => some a
  | .out .broadcast _ => none
  | .inn a _ => some a

/-- The depth of an OUT circuit; 0 for IN, where it is absent (R24). -/
def CircuitDef.depth (c : CircuitDef) : Nat :=
  match c.ends with
  | .out _ d => d
  | .inn _ _ => 0

/-- Whether an IN circuit's change filter is on; off for OUT, where it is absent (R24). -/
def CircuitDef.filterOn (c : CircuitDef) : Bool :=
  match c.ends with
  | .out _ _ => false
  | .inn _ f => f

/-! ### Buffers held (R134) -/

/-- Buffers held by an OUT queue (R134). -/
def CircuitRun.queueHeld (r : CircuitRun) : Nat := (r.queue.map List.length).sum

/-- Buffers held by a unit in flight: none for HOLD (R134). -/
def Flight.held (f : Flight) : Nat :=
  match f.kind with
  | .data => f.cells.length
  | .hold => 0

/-- Buffers held by an assembly (R134). -/
def Assembly.held (a : Assembly) : Nat :=
  match a.bufs with
  | some bufs => bufs.length
  | none => 0

/-- Buffers held by a circuit: queue, unit in flight and assembly (R134). -/
def CircuitRun.held (r : CircuitRun) : Nat :=
  r.queueHeld + (r.flight.map Flight.held).getD 0 + (r.assembly.map Assembly.held).getD 0

/-- Buffers held under an id, 0 where no circuit is live (R134). -/
def heldBy (c : Option LiveCircuit) : Nat :=
  match c with
  | some l => l.run.held
  | none => 0

/-- The live circuits; none while no live schedule exists (R23). -/
def State.liveTable (s : State) : Table (Option LiveCircuit) 32 :=
  match s.sched.live with
  | some l => l.circuits
  | none => Table.replicate 32 none

/-- Buffers held by all circuits (R137). -/
def State.circuitsHeld (s : State) : Nat := s.liveTable.sum heldBy

/-! ### Access to live circuits -/

/-- The live circuit of an id, if any. -/
def State.circuit (id : CircuitId) (s : State) : Option LiveCircuit :=
  match s.sched.live with
  | some l => l.circuits.get id
  | none => none

/-- The table of live circuits replaced; nothing while no live schedule exists. -/
def State.setLiveTable (t : Table (Option LiveCircuit) 32) (s : State) : State :=
  match s.sched.live with
  | some l => s.withSched { s.sched with live := some { l with circuits := t } }
  | none => s

/-- A live circuit replaced, the pool untouched. -/
def State.setCircuit (id : CircuitId) (c : LiveCircuit) (s : State) : State :=
  s.setLiveTable (s.liveTable.set id (some c))

/-- A live circuit replaced: the buffers that it no longer holds return to the pool, those that it newly holds are
taken from it (R135, R136). -/
def State.rehold (id : CircuitId) (c : LiveCircuit) (s : State) : State :=
  (s.onDelivery fun d => { d with free := d.free + heldBy (s.circuit id) - c.run.held }).setCircuit id c

/-- Every live circuit passed through `f`; the buffers they let go return to the pool (R136). -/
def State.mapLive (f : LiveCircuit → LiveCircuit) (s : State) : State :=
  let before := s.liveTable
  let after := before.map (Option.map f)
  (s.onDelivery (Delivery.giveBack (before.sum heldBy - after.sum heldBy))).setLiveTable after

/-! ### Counters (R50) -/

/-- Counters all 0 (R46, R49). -/
def CircuitCounters.zero : CircuitCounters := ⟨0, 0, 0, 0, 0, 0⟩

/-- Units dropped goes up by 1 when `b` (R50). -/
def CircuitRun.dropIf (b : Bool) (r : CircuitRun) : CircuitRun :=
  { r with counters := { r.counters with dropped := satIncIf b r.counters.dropped } }

/-! ### Stall, resume, abandonment (R51 to R53, R70) -/

/-- Runtime state of a circuit that is new, its run state given (R46). -/
def CircuitRun.fresh (rs : RunState) : CircuitRun where
  runState := rs
  queue := []
  flight := none
  lastSent := none
  assembly := none
  lastDelivered := none
  lossReported := false
  counters := CircuitCounters.zero

/-- A unit that is being sent or received is given up: units dropped goes up by 1 for a DATA unit in flight and for
an assembly that holds buffers (R53, R70). -/
def LiveCircuit.abandon (c : LiveCircuit) : LiveCircuit :=
  let dataCut := match c.run.flight with
    | some f => f.kind == .data
    | none => false
  let heldCut := match c.run.assembly with
    | some a => a.bufs.isSome
    | none => false
  { c with run := { (c.run.dropIf dataCut).dropIf heldCut with flight := none, assembly := none } }

/-- RUNNING to STALLED (R53). -/
def LiveCircuit.stall (c : LiveCircuit) : LiveCircuit :=
  { c.abandon with run := { c.abandon.run with runState := .stalled } }

/-- STALLED to RUNNING: the last-delivered copy becomes absent (R52). -/
def LiveCircuit.resume (c : LiveCircuit) : LiveCircuit :=
  { c with run := { c.run with runState := .running, lastDelivered := none } }

/-- A circuit takes its run state from whether its station is fit (R51). -/
def LiveCircuit.follow (fit : Bool) (c : LiveCircuit) : LiveCircuit :=
  match c.run.runState, fit with
  | .running, false => c.stall
  | .stalled, true => c.resume
  | .running, true => c
  | .stalled, false => c

/-- A station whose circuits run: ACTIVE or FAULTY (R51). -/
def StationState.fit : StationState → Bool
  | .active => true
  | .faulty => true
  | .absent => false
  | .found => false
  | .lost => false
  | .excluded => false

/-- A station's change is passed to its circuits (R51, R93). -/
def State.followStation (a : StAddr) (s : State) : State :=
  let fit := (s.roster.entries.get a).state.fit
  s.mapLive fun c => if c.defn.station? = some a then c.follow fit else c

/-- At frames stopping by HALT every unit cut short is given up (R70). -/
def State.abandonUnits (s : State) : State := s.mapLive LiveCircuit.abandon

/-! ### Losses (R67) -/

/-- A LOSS event is raised while the loss-reported flag is clear: the flag is set and a record offered (R67). -/
def State.raiseLoss (id : CircuitId) (cause : LossCause) (s : State) : State :=
  match s.circuit id with
  | none => s
  | some c =>
    if c.run.lossReported then s
    else (s.setCircuit id { c with run := { c.run with lossReported := true } }).offerEvent
      (.loss id cause s.frame)

/-! ### Sending an OUT unit (R58 to R61) -/

/-- The payload of a HOLD unit: the last-sent copy, or zero bytes (R58). -/
def LiveCircuit.holdCells (c : LiveCircuit) : List Buf :=
  match c.run.lastSent with
  | some u => u
  | none => List.replicate c.defn.width Buf.zero

/-- A unit begins at the first slot of a due OUT circuit (R58). -/
def State.beginOut (id : CircuitId) (c : LiveCircuit) (s : State) : State :=
  match c.run.queue with
  | u :: rest => s.rehold id { c with run := { c.run with queue := rest, flight := some ⟨.data, u, 0⟩ } }
  | [] =>
    (s.rehold id { c with run := { c.run with
        flight := some ⟨.hold, c.holdCells, 0⟩
        counters := { c.run.counters with underruns := satInc c.run.counters.underruns } } }).raiseLoss id .underrun

/-- The address of an OUT circuit's cells (R59). -/
def Dest.field : Dest → BitVec 5
  | .station a => addrField a
  | .broadcast => 31

/-- The header of the cell at a position of an OUT unit (R59). -/
def outHeader (d : Dest) (kind : FlightKind) (position width : Nat) : Half :=
  packHeader cellData d.field 0 (outFlags kind position width)

/-- The cell at `position` of the unit in flight is sent; quiet where none is in flight (R59, R60). -/
def State.sendOut (id : CircuitId) (position : Nat) (d : Dest) (s : State) : State × SlotMode :=
  match s.circuit id with
  | none => (s, .quiet)
  | some c =>
    match c.run.flight with
    | none => (s, .quiet)
    | some f =>
      (s.withPort (s.port.drive
        (cellBytes (outHeader d f.kind position c.defn.width) (f.cells.getD position Buf.zero))),
       .sendCircuit id position)

/-- A slot of a due OUT circuit opens (R58, R60): the due frame, the run state and the queue are judged at
position 0. -/
def State.openOut (id : CircuitId) (c : LiveCircuit) (d : Dest) (position : Nat) (s : State) : State × SlotMode :=
  if position = 0 then
    if s.port.trunk = .running ∧ c.run.runState = .running then (s.beginOut id c).sendOut id 0 d
    else (s, .quiet)
  else s.sendOut id position d

/-- The slot of a cell of the unit in flight closes; at position w − 1 the unit has been sent whole (R61). -/
def State.closeOut (id : CircuitId) (position : Nat) (s : State) : State :=
  match s.circuit id with
  | none => s
  | some c =>
    match c.run.flight with
    | none => s
    | some f =>
      if position + 1 = c.defn.width then
        match f.kind with
        | .data =>
          s.rehold id { c with run := { c.run with
            flight := none
            lastSent := some f.cells
            counters := { c.run.counters with sent := satInc c.run.counters.sent } } }
        | .hold =>
          s.rehold id { c with run := { c.run with
            flight := none
            counters := { c.run.counters with holds := satInc c.run.counters.holds } } }
      else
        s.setCircuit id { c with run := { c.run with flight := some { f with sent := position + 1 } } }

/-! ### Receiving an IN unit (R62, R63, R65, R66) -/

/-- An assembly begins at the first slot of a due IN circuit: it claims w buffers, or the unit is already dropped
(R62). -/
def State.beginIn (id : CircuitId) (c : LiveCircuit) (s : State) : State :=
  let w := c.defn.width
  if s.delivery.inboundClaim w then
    s.rehold id
      { c with run := { c.run with
          assembly := some ⟨some (List.replicate w Buf.zero), List.replicate w .pending⟩ } }
  else
    (s.rehold id { c with run := { c.run.dropIf true with
        assembly := some ⟨none, List.replicate w .pending⟩ } }).raiseLoss id .noBuffer

/-- A slot of a due IN circuit opens: quiet in STARTING, else listened to whatever the run state (R14, R62). -/
def State.openIn (id : CircuitId) (c : LiveCircuit) (source : StAddr) (position : Nat) (s : State) :
    State × SlotMode :=
  if s.port.trunk = .running then
    (if position = 0 ∧ c.run.runState = .running then s.beginIn id c else s, .listenCircuit id position source)
  else (s, .quiet)

/-- A slot of a due circuit opens (R14, R58, R62). -/
def State.openCircuit (id : CircuitId) (position : Nat) (s : State) : State × SlotMode :=
  match s.circuit id with
  | none => (s, .quiet)
  | some c =>
    match c.defn.ends with
    | .out d _ => s.openOut id c d position
    | .inn a _ => s.openIn id c a position

/-- The judgement of a listen slot, with the payload of a GOOD cell (R16). -/
inductive Judgement where
  | good (payload : Buf)
  | bad
  | silent
deriving DecidableEq, Repr

/-- The status a judgement gives a position (R63). -/
def Judgement.status : Judgement → SlotStatus
  | .good _ => .good
  | .bad => .bad
  | .silent => .silent

/-- The 8 bytes a judgement stores: the payload, or zero bytes (R63). -/
def Judgement.stored : Judgement → Buf
  | .good p => p
  | .bad => Buf.zero
  | .silent => Buf.zero

/-- A position of an assembly takes its judgement (R63). -/
def Assembly.judge (position : Nat) (j : Judgement) (a : Assembly) : Assembly where
  bufs := a.bufs.map fun b => b.set position j.stored
  status := a.status.set position j.status

/-- Whether the change filter lets a unit pass (R65). -/
def LiveCircuit.passesFilter (c : LiveCircuit) (status : List SlotStatus) (bufs : List Buf) : Bool :=
  !c.defn.filterOn || status.any (· != .good) ||
    match c.run.lastDelivered with
    | none => true
    | some last => last != bufs

/-- The delivery decision on a completed unit with buffers from a heard station (R65, R66). -/
def State.decideDelivery (id : CircuitId) (c : LiveCircuit) (status : List SlotStatus) (bufs : List Buf)
    (s : State) : State :=
  if c.passesFilter status bufs then
    if s.delivery.belowHighMark then
      (s.setCircuit id { c with run := { c.run with
          assembly := none
          lastDelivered := if status.all (· == .good) then some bufs else none
          counters := { c.run.counters with delivered := satInc c.run.counters.delivered } } }).onDelivery
        (Delivery.append (.data id s.frame status bufs))
    else
      (s.rehold id { c with run := { c.run.dropIf true with assembly := none } }).raiseLoss id .noRoom
  else
    s.rehold id { c with run := { c.run with
      assembly := none
      counters := { c.run.counters with suppressed := satInc c.run.counters.suppressed } } }

/-- The assembly ends; its buffers, if any, return to the pool (R64). -/
def State.endAssembly (id : CircuitId) (s : State) : State :=
  match s.circuit id with
  | none => s
  | some c => s.rehold id { c with run := { c.run with assembly := none } }

/-- What follows a heard report for a completed unit: the delivery decision where the assembly holds buffers (R64). -/
def State.finishHeardUnit (id : CircuitId) (s : State) : State :=
  match s.circuit id with
  | none => s
  | some c =>
    match c.run.assembly with
    | none => s
    | some a =>
      match a.bufs with
      | none => s.endAssembly id
      | some bufs => s.decideDelivery id c a.status bufs

end Sys2Proof.Machine
end

