-- ==== Sys2Proof/Machine/EngineOps.lean ====
section
/-! DEFINITION. The machinery of transactions that host records and batch items share, and the host queue: issue,
answer, retry, defer, completion (R94 to R114). -/

namespace Sys2Proof.Machine

/-! ### Roster entries -/

/-- The entry of a station. -/
def State.entry (a : StAddr) (s : State) : StationEntry := s.roster.entries.get a

/-- The entry of a station replaced. -/
def State.setEntry (a : StAddr) (e : StationEntry) (s : State) : State :=
  s.withRoster { s.roster with entries := s.roster.entries.set a e }

/-- The outstanding marker of a station set or cleared (R73). -/
def State.setMarker (a : StAddr) (m : Option Marker) (s : State) : State :=
  s.setEntry a { s.entry a with marker := m }

/-- A station to which nothing is issued: ABSENT, LOST or EXCLUDED (R100, R125). -/
def StationState.unavailable : StationState → Bool
  | .absent => true
  | .lost => true
  | .excluded => true
  | .found => false
  | .active => false
  | .faulty => false

/-! ### One transaction (R97, R102 to R106, R126) -/

/-- A host record at acceptance, or an item as it becomes current (R97, R125). -/
def Attempt.fresh : Attempt where
  state := .queued
  failures := 0
  deferred := false
  firstIssue := none
  token := none
  dueFrame := none
  due := false

/-- Whether a transaction has been issued at least once (R97). -/
def Attempt.wasIssued (a : Attempt) : Bool := a.state != .queued

/-- WAITING from the frame after `f` (R101). -/
def Attempt.waitFrom (f : FrameNo) (a : Attempt) : Attempt :=
  { a with state := .waiting, dueFrame := some (f + 1), due := false }

/-- The code of an action (R166). -/
def Action.code : Action → Byte
  | .fetch => 1
  | .store => 2
  | .swap => 3

/-- The payload of a REQUEST cell (R103). -/
def TxnRequest.payload (r : TxnRequest) : Buf :=
  ⟨r.action.code, (r.object.setWidth 16).extractLsb' 8 8, (r.object.setWidth 16).extractLsb' 0 8,
   BitVec.ofNat 8 r.data.length, r.data.getD 0 0, r.data.getD 1 0, r.data.getD 2 0, r.data.getD 3 0⟩

/-- The header of a REQUEST cell (R103). -/
def requestHeader (a : StAddr) (t : Token) : Half := packHeader cellRequest (addrField a) t 0

/-- The token of the next first issue to a station: its counter plus 1 (R102). -/
def State.nextToken (a : StAddr) (s : State) : Token := s.engine.tokens.get a + 1

/-- A first issue takes the token from the counter and sets the station's marker (R102, R103, R126). -/
def State.takeToken (a : StAddr) (m : Marker) (s : State) : State :=
  (s.withEngine { s.engine with tokens := s.engine.tokens.set a (s.nextToken a) }).setMarker a (some m)

/-- The transaction after its issue in frame `f` with token `t` (R103, R126). -/
def Attempt.issueAt (f : FrameNo) (t : Token) (a : Attempt) : Attempt :=
  { a with
    state := .issued
    firstIssue := if a.wasIssued then a.firstIssue else some f
    token := some t
    dueFrame := none
    due := false }

/-- The token a transaction is issued with: at a reissue the one fixed at its first issue, at the first issue the next
one of its station (R102). -/
def State.issueToken (r : TxnRequest) (a : Attempt) (s : State) : Token :=
  if a.wasIssued then a.token.getD (s.nextToken r.station) else s.nextToken r.station

/-- A REQUEST goes out in the OPEN slot: at a first issue the token and the marker are taken; the port drives the
cell and records its expectation (R15, R103, R126). -/
def State.issueRequest (user : PairUser) (m : Marker) (r : TxnRequest) (a : Attempt) (s : State) : State :=
  let t := s.issueToken r a
  let s := if a.wasIssued then s else s.takeToken r.station m
  s.withPort { s.port.drive (cellBytes (requestHeader r.station t) r.payload) with
    pair := some ⟨user, r.station, t⟩ }

/-- What a REPLY slot's judgement does to a transaction (R104, R105, R126). -/
inductive AnswerEffect where
  | done (data : List Byte)
  | rejected (reason : Byte)
  | noAnswer
  | waits (a : Attempt)
deriving DecidableEq, Repr

/-- A failed attempt against the retry limit (R105). -/
def Attempt.fail (retryLimit : Nat) (f : FrameNo) (a : Attempt) : AnswerEffect :=
  if retryLimit < a.failures + 1 then .noAnswer
  else .waits ({ a with failures := a.failures + 1 }.waitFrom f)

/-- The data bytes of an ANSWER: the first ones, as many as its length field says (R104, R171). -/
def answerData (p : Buf) : List Byte := [p.b3, p.b4, p.b5, p.b6].take p.b2.toNat

/-- A judgement acts on an ISSUED transaction; a malformed ANSWER is a failed attempt (R104, R105). -/
def Attempt.answered (retryLimit : Nat) (f : FrameNo) (j : Judgement) (a : Attempt) : AnswerEffect :=
  match j with
  | .bad => a.fail retryLimit f
  | .silent => a.fail retryLimit f
  | .good p =>
    if 2 < p.b0.toNat ∨ 4 < p.b2.toNat then a.fail retryLimit f
    else if p.b0 = 0 then .done (answerData p)
    else if p.b0 = 2 then .rejected p.b1
    else .waits ({ a with deferred := true }.waitFrom f)

/-! ### Completion of a host record (R108) -/

/-- A record leaves the host queue; the later ones move up (R108). -/
def State.dropRecord (tag : Byte) (s : State) : State :=
  s.withEngine { s.engine with queue := s.engine.queue.eraseP fun r => r.tag == tag }

/-- A host record completes: it leaves the queue, its station's marker is cleared if it had been issued, its DONE
record takes the place of its reservation, its tag is released (R108). -/
def State.completeHost (r : HostRecord) (o : TxnOutcome) (reason : Byte) (data : List Byte) (s : State) : State :=
  let s := s.dropRecord r.tag
  let s := if r.attempt.wasIssued then s.setMarker r.request.station none else s
  (s.onDelivery (Delivery.appendDone r.tag o reason data)).releaseTag r.tag

/-- The records of a list complete in their order with one outcome (R112, R114). -/
def State.completeAll (o : TxnOutcome) : List HostRecord → State → State
  | [], s => s
  | r :: rest, s => (s.completeHost r o 0 []).completeAll o rest

/-- A record of the queue is replaced by its new self (R103 to R105). -/
def State.setAttempt (tag : Byte) (a : Attempt) (s : State) : State :=
  s.withEngine { s.engine with
    queue := s.engine.queue.map fun r => if r.tag = tag then { r with attempt := a } else r }

/-! ### Choosing and issuing (R100, R103) -/

/-- The examination of the host queue, oldest first: records to unavailable stations complete, the first eligible
one is chosen (R100). -/
def State.examine : List HostRecord → State → State × Option HostRecord
  | [], s => (s, none)
  | r :: rest, s =>
    match r.attempt.state with
    | .waiting => if r.attempt.due then (s, some r) else s.examine rest
    | .issued => s.examine rest
    | .queued =>
      if (s.entry r.request.station).state.unavailable then
        (s.completeHost r .stationUnavailable 0 []).examine rest
      else if (s.entry r.request.station).marker.isNone then (s, some r)
      else s.examine rest

/-- The chosen record is issued in this pair (R103). -/
def State.issueHost (r : HostRecord) (s : State) : State :=
  let t := s.issueToken r.request r.attempt
  (s.issueRequest (.hostRecord r.tag) ⟨.host, r.tag⟩ r.request r.attempt).setAttempt r.tag
    (r.attempt.issueAt s.frame t)

/-! ### Frame start (R101, R106) -/

/-- The deferred WAITING records whose age has reached the defer window, in queue order (R106). -/
def State.timedOutRecords (s : State) : List HostRecord :=
  s.engine.queue.filter fun r => r.attempt.timedOutAt s.frame s.cfg.deferWindow

/-- The WAITING records whose due frame is the frame now starting become due (R101). -/
def State.markHostDue (s : State) : State :=
  s.withEngine { s.engine with
    queue := s.engine.queue.map fun r =>
      { r with attempt := r.attempt.markDueAt s.frame s.cfg.deferWindow } }

/-- A stray answer is counted if the cell is GOOD (R113). -/
def State.countStray (j : Judgement) (s : State) : State :=
  match j with
  | .good _ => s.withEngine { s.engine with strays := satInc s.engine.strays }
  | .bad => s
  | .silent => s

end Sys2Proof.Machine
end

