-- ==== Sys2Proof/Machine/BatchOps.lean ====
section
/-! DEFINITION. The batch unit: passes and reservations, the current item, the end of an item, a pass and a run
(R118 to R132). -/

namespace Sys2Proof.Machine

/-- The batch unit's state replaced. -/
def State.setBatch (b : BatchState) (s : State) : State := s.withBatch { s.batch with state := b }

/-- The station of item `index`, counted from 1 (R118). -/
def BatchList.item (index : Nat) (l : BatchList) : Option TxnRequest := l.items[index - 1]?

/-- Every outcome entry NONE (R123). -/
def BatchList.noOutcomes (l : BatchList) : List (Option ItemOutcome) := List.replicate l.items.length none

/-- Where the items of a pass lead: an item is PENDING, or the pass has ended (R125, R128). -/
inductive PassProgress where
  | pendingItem (index : Nat) (outcomes : List (Option ItemOutcome))
  | ended (cause : EndCause) (outcomes : List (Option ItemOutcome))
deriving DecidableEq, Repr

/-- The remaining items become current one after another; an item to an unavailable station ends at once (R125,
R128). -/
def passItems (policy : Policy) (entries : Table StationEntry 30) :
    List TxnRequest → Nat → List (Option ItemOutcome) → PassProgress
  | [], _, oc => .ended .complete oc
  | it :: rest, i, oc =>
    if (entries.get it.station).state.unavailable then
      let oc := oc.set (i - 1) (some ⟨.stationUnavailable, []⟩)
      match policy with
      | .stop => .ended .failedStop oc
      | .continue_ => passItems policy entries rest (i + 1) oc
    else .pendingItem i oc

/-- The outcome list of a PASS record: an item that was not reached carries NOT_RUN (R128, R130). -/
def recordOutcomes (oc : List (Option ItemOutcome)) : List ItemOutcome := oc.map (·.getD ⟨.notRun, []⟩)

/-- Whether a pass is final: its end cause is not COMPLETE, or it is pass K (R130). -/
def finalPass (cause : EndCause) (r : BatchRun) : Bool := cause != .complete || decide (r.passes ≤ r.pass)

/-- A pass appends its PASS record in place of its reservation; with the final one the tag is released and the batch
returns to LOADED (R130). -/
def State.endPass (l : BatchList) (r : BatchRun) (cause : EndCause) (oc : List (Option ItemOutcome)) (s : State) :
    State :=
  let final := finalPass cause r
  let s := s.onDelivery (Delivery.appendPass r.tag r.pass final cause (recordOutcomes oc))
  if final then (s.releaseTag r.tag).setBatch (.loaded l)
  else s.setBatch (.running l { r with current := none, outcomes := oc })

/-- What the items of a pass in progress have come to: the next PENDING item, or the end of the pass. The flag says
that another pass is to start (R128, R130). -/
def State.holdProgress (l : BatchList) (r : BatchRun) (p : PassProgress) (s : State) : State × Bool :=
  match p with
  | .pendingItem i oc =>
    (s.setBatch (.running l { r with current := some ⟨i, Attempt.fresh⟩, outcomes := oc }), false)
  | .ended cause oc => (s.endPass l r cause oc, !finalPass cause r)

/-- A pass whose reservation is held begins: outcomes NONE, item 1 becomes current (R123). -/
def State.beginItems (l : BatchList) (r : BatchRun) (s : State) : State × Bool :=
  s.holdProgress l { r with waiting := false, current := none }
    (passItems l.policy s.roster.entries l.items 1 l.noOutcomes)

/-- A pass start asks for its reservation; without room it waits, with no item current (R123). -/
def State.startPass (l : BatchList) (r : BatchRun) (s : State) : State × Bool :=
  if s.delivery.hasRoom then (s.onDelivery Delivery.reserveBatch).beginItems l r
  else (s.setBatch (.running l { r with waiting := true, current := none, outcomes := l.noOutcomes }), false)

/-- Pass after pass, `n` of them at most, until one has a PENDING item, waits for room, or is final (R123, R130).
The run record's pass number is that of the pass to start. -/
def State.runPasses : Nat → BatchList → BatchRun → State → State
  | 0, _, _, s => s
  | n + 1, l, r, s =>
    let (s, again) := s.startPass l r
    if again then s.runPasses n l { r with pass := r.pass + 1 } else s

/-- A pass in progress goes on, and further passes start if it ends and is not final (R128, R130). -/
def State.continueRun (l : BatchList) (r : BatchRun) (p : PassProgress) (s : State) : State :=
  let (s, again) := s.holdProgress l r p
  if again then s.runPasses (r.passes - r.pass) l { r with pass := r.pass + 1, waiting := false } else s

/-- A run starts with pass 1 of K passes (R122). -/
def State.startRun (l : BatchList) (tag : Byte) (k : Nat) (s : State) : State :=
  (s.holdTag tag).runPasses k l
    { tag := tag, passes := k, pass := 1, current := none, waiting := false, abort := false, decided := none,
      outcomes := l.noOutcomes }

/-- What follows the end of item `i` (R128). -/
def afterItem (l : BatchList) (r : BatchRun) (entries : Table StationEntry 30) (i : Nat) (o : TxnOutcome)
    (oc : List (Option ItemOutcome)) : PassProgress :=
  match o with
  | .trunkStopped => .ended .trunkStopped oc
  | .trunkHalted => .ended .trunkHalted oc
  | _ =>
    if r.abort then .ended .aborted oc
    else if o ≠ .done ∧ l.policy = .stop then .ended .failedStop oc
    else passItems l.policy entries (l.items.drop i) (i + 1) oc

/-- The current item ends: its station's marker is cleared if it had been issued, its outcome is recorded, and the
run goes on or ends (R128). -/
def State.endItem (l : BatchList) (r : BatchRun) (c : CurrentItem) (o : ItemOutcome) (s : State) : State :=
  let s := match l.item c.index with
    | some it => if c.attempt.wasIssued then s.setMarker it.station none else s
    | none => s
  let oc := r.outcomes.set (c.index - 1) (some o)
  s.continueRun l r (afterItem l r s.roster.entries c.index o.outcome oc)

/-- The batch unit's eligible work for a pair: its current item, if it may be issued (R124). -/
def State.batchEligible (s : State) : Option (BatchList × BatchRun × CurrentItem × TxnRequest) :=
  match s.batch.state with
  | .empty => none
  | .loaded _ => none
  | .running l r =>
    match r.current with
    | none => none
    | some c =>
      match l.item c.index with
      | none => none
      | some it =>
        let ready := match c.attempt.state with
          | .queued => (s.entry it.station).marker.isNone
          | .waiting => c.attempt.due
          | .issued => false
        if !r.waiting && !r.abort && ready then some (l, r, c, it) else none

/-- The current item is issued in this pair (R126). -/
def State.issueBatch (l : BatchList) (r : BatchRun) (c : CurrentItem) (it : TxnRequest) (s : State) : State :=
  let t := s.issueToken it c.attempt
  (s.issueRequest (.batchItem r.pass c.index) ⟨.batch, r.tag⟩ it c.attempt).setBatch
    (.running l { r with current := some { c with attempt := c.attempt.issueAt s.frame t } })

/-- The judgement of a REPLY slot acts on an ISSUED item; with the abort-requested flag set, an item that would go
on WAITING ends ABORTED (R126, R129). -/
def State.answerItem (l : BatchList) (r : BatchRun) (c : CurrentItem) (j : Judgement) (s : State) : State :=
  match c.attempt.answered s.cfg.retryLimit s.frame j with
  | .done data => s.endItem l r c ⟨.done, data⟩
  | .rejected reason => s.endItem l r c ⟨.rejected, [reason]⟩
  | .noAnswer => s.endItem l r c ⟨.noAnswer, []⟩
  | .waits a =>
    if r.abort then s.endItem l r c ⟨.aborted, []⟩
    else s.setBatch (.running l { r with current := some { c with attempt := a } })

/-- The ISSUED current item that a pair's noted pass number and index name, if they still name one (R126, R131). -/
def State.notedItem (pass index : Nat) (s : State) : Option (BatchList × BatchRun × CurrentItem) :=
  match s.batch.state with
  | .empty => none
  | .loaded _ => none
  | .running l r =>
    match r.current with
    | none => none
    | some c =>
      if r.pass = pass ∧ c.index = index ∧ c.attempt.state = .issued then some (l, r, c) else none

/-- The current item of a run, if it targets the station, ends by the cascade (R84, R87, R131). -/
def State.cascadeBatch (a : StAddr) (o : TxnOutcome) (s : State) : State :=
  match s.batch.state with
  | .empty => s
  | .loaded _ => s
  | .running l r =>
    match r.current with
    | none => s
    | some c =>
      match l.item c.index with
      | none => s
      | some it => if it.station = a then s.endItem l r c ⟨o, []⟩ else s

/-- The current item of a run that is deferred, WAITING and past the defer window, if any (R127). -/
def State.timedOutItem (s : State) : Option (BatchList × BatchRun × CurrentItem) :=
  match s.batch.state with
  | .empty => none
  | .loaded _ => none
  | .running l r =>
    match r.current with
    | none => none
    | some c => if c.attempt.timedOutAt s.frame s.cfg.deferWindow then some (l, r, c) else none

/-- The WAITING current item becomes due at the start of its due frame (R127). -/
def State.markBatchDue (s : State) : State :=
  match s.batch.state with
  | .empty => s
  | .loaded _ => s
  | .running l r =>
    match r.current with
    | none => s
    | some c =>
      s.setBatch (.running l { r with
        current := some ⟨c.index, c.attempt.markDueAt s.frame s.cfg.deferWindow⟩ })

/-- Whether a pass waits for room while a place is free: an offer is to be taken (R123, R144). -/
def State.roomOffered (s : State) : Bool :=
  match s.batch.state with
  | .empty => false
  | .loaded _ => false
  | .running _ r => r.waiting && s.delivery.hasRoom

/-- The waiting pass takes its reservation in the freed place, and begins, or its run's final PASS record is
appended at once where the end was decided while it waited (R123, R132). -/
def State.takeRoom (s : State) : State :=
  match s.batch.state with
  | .empty => s
  | .loaded _ => s
  | .running l r =>
    match r.decided with
    | some cause => (s.onDelivery Delivery.reserveBatch).endPass l r cause l.noOutcomes
    | none => s.runPasses (r.passes - r.pass + 1) l { r with waiting := false }

/-- Frames stopping ends a run, or decides the end of one that waits for room (R132). `o` and `cause` are both
TRUNK_STOPPED or both TRUNK_HALTED. -/
def State.stopBatch (o : TxnOutcome) (cause : EndCause) (s : State) : State :=
  match s.batch.state with
  | .empty => s
  | .loaded _ => s
  | .running l r =>
    if r.waiting then
      match r.decided with
      | some _ => s
      | none => s.setBatch (.running l { r with decided := some cause })
    else
      match r.current with
      | some c => s.endItem l r c ⟨o, []⟩
      | none => s

end Sys2Proof.Machine
end

