-- ==== Sys2Proof/Machine/RosterOps.lean ====
section
/-! DEFINITION. The station roster: heard and miss reports, loss and its cascade, identity, the cursors (R72 to
R93). A change of state between FAULTY and ACTIVE, or among ABSENT, FOUND, LOST and EXCLUDED, leaves every run state
as it is (R51), so only the other changes are passed to the circuits here. -/

namespace Sys2Proof.Machine

/-- A STATION event record is offered (R90). -/
def State.stationEvent (a : StAddr) (ev : StationEvent) (replaced : Bool) (identity : Option Identity) (s : State) :
    State :=
  s.offerEvent (.station a ev replaced s.frame identity)

/-! ### Cascades (R84, R87, R112) -/

/-- The host record that holds a station's marker, if one does (R112). -/
def State.holderOf (a : StAddr) (s : State) : Option HostRecord :=
  match (s.entry a).marker with
  | none => none
  | some m =>
    match m.source with
    | .batch => none
    | .host => s.engine.queue.find? fun r => r.request.station == a && r.tag == m.tag

/-- The host records of a station (R112). -/
def State.recordsOf (a : StAddr) (s : State) : List HostRecord :=
  s.engine.queue.filter fun r => r.request.station == a

/-- The station's outstanding host record completes, then every other one to it in queue order; the number
completed is reported back (R112). -/
def State.cascadeHost (a : StAddr) (o : TxnOutcome) (s : State) : State × Nat :=
  let s1 := match s.holderOf a with
    | some r => s.completeHost r o 0 []
    | none => s
  (s1.completeAll o (s1.recordsOf a), (s.holderOf a).toList.length + (s1.recordsOf a).length)

/-- A station becomes LOST: circuits stall, its transactions and batch item end, a record is offered, in that order
(R84). -/
def State.loseStation (a : StAddr) (s : State) : State :=
  let s := (s.setEntry a { s.entry a with state := .lost }).followStation a
  let s := (s.cascadeHost a .stationLost).1
  (s.cascadeBatch a .stationLost).stationEvent a .lost false none

/-- The cascade of EXCLUDE, with the number of host transactions completed (R87). -/
def State.excludeNow (a : StAddr) (s : State) : State × Nat :=
  let s := (s.setEntry a { s.entry a with state := .excluded }).followStation a
  let (s, n) := s.cascadeHost a .stationExcluded
  (s.cascadeBatch a .stationExcluded, n)

/-! ### Reports (R74, R75) -/

/-- A heard report (R74). -/
def State.heard (a : StAddr) (s : State) : State :=
  let e := s.entry a
  match e.state with
  | .active => s.setEntry a { e with missCount := 0, sinceHeard := 0 }
  | .found => s.setEntry a { e with missCount := 0, sinceHeard := 0 }
  | .faulty =>
    (s.setEntry a { e with state := .active, missCount := 0, sinceHeard := 0 }).stationEvent a .recovered false none
  | .absent => s
  | .lost => s
  | .excluded => s

/-- A miss report on an entry that counts misses (R75). -/
def State.countMiss (a : StAddr) (s : State) : State :=
  let e := s.entry a
  let n := e.missCount + 1
  if s.cfg.lossLimit ≤ n then (s.setEntry a { e with missCount := n }).loseStation a
  else if s.cfg.missThreshold ≤ n ∧ e.state = .active then
    (s.setEntry a { e with missCount := n, state := .faulty }).stationEvent a .faulty false none
  else s.setEntry a { e with missCount := n }

/-- A miss report (R75). -/
def State.missed (a : StAddr) (s : State) : State :=
  match (s.entry a).state with
  | .found => s.countMiss a
  | .active => s.countMiss a
  | .faulty => s.countMiss a
  | .absent => s
  | .lost => s
  | .excluded => s

/-- The report that follows a judgement: heard for GOOD, a miss for BAD or SILENT (R74, R75). -/
def State.report (a : StAddr) (j : Judgement) (s : State) : State :=
  match j with
  | .good _ => s.heard a
  | .bad => s.missed a
  | .silent => s.missed a

/-! ### Identity (R81 to R83) -/

/-- The identity record of an IDENT payload (Table 9.7). -/
def identityOf (p : Buf) : Identity where
  class_ := p.b0 ++ p.b1
  revision := p.b2
  serial := p.b3 ++ p.b4 ++ p.b5 ++ p.b6
  profile := p.b7

/-- An entry becomes FOUND: identity stored, counts 0, auto-rejoin off; its marker is kept (R81, R82). -/
def StationEntry.becomeFound (i : Identity) (e : StationEntry) : StationEntry :=
  { e with state := .found, missCount := 0, sinceHeard := 0, identity := some i, autoRejoin := false }

/-- A GOOD IDENT (R81, R82, R83). -/
def State.identified (a : StAddr) (i : Identity) (s : State) : State :=
  let e := s.entry a
  match e.state with
  | .absent => (s.setEntry a (e.becomeFound i)).stationEvent a .found false (some i)
  | .lost =>
    if e.identity.map Identity.serial = some i.serial then
      if e.autoRejoin then
        ((s.setEntry a { e with state := .active, missCount := 0, sinceHeard := 0, identity := some i }).followStation
          a).stationEvent a .rejoined false (some i)
      else (s.setEntry a (e.becomeFound i)).stationEvent a .found false (some i)
    else (s.setEntry a (e.becomeFound i)).stationEvent a .found true (some i)
  | .found => s
  | .active => s
  | .faulty => s
  | .excluded => s

/-- The judgement of a REPLY slot after ROLL (R80 to R83). -/
def State.rollAnswered (a : StAddr) (j : Judgement) (s : State) : State :=
  match j with
  | .good p => s.identified a (identityOf p)
  | .bad => s
  | .silent => s

/-! ### Cursors and bids (R77 to R79) -/

/-- A roll-call candidate: ABSENT or LOST (R77). -/
def StationEntry.rollCandidate (e : StationEntry) : Bool := e.state == .absent || e.state == .lost

/-- A presence-check candidate: ACTIVE or FAULTY with frames since heard at 64 (R77). -/
def StationEntry.presenceCandidate (e : StationEntry) : Bool :=
  (e.state == .active || e.state == .faulty) && e.sinceHeard == Config.heardLimit

/-- The first candidate from the cursor's address upward, after 30 going on at 1 (R78). -/
def Roster.pick (r : Roster) (cursor : StAddr) (candidate : StationEntry → Bool) : Option StAddr :=
  ((List.finRange 30).map (cursor + ·)).find? fun a => candidate (r.entries.get a)

/-- The activity a roster bids with, and the address it picked. -/
inductive RosterBid where
  | roll (a : StAddr)
  | presence (a : StAddr)
deriving DecidableEq, Repr

/-- A roll call's pick (R78). -/
def Roster.rollBid (r : Roster) : Option RosterBid := (r.pick r.rollCursor StationEntry.rollCandidate).map .roll

/-- A presence check's pick (R78). -/
def Roster.presenceBid (r : Roster) : Option RosterBid :=
  (r.pick r.presenceCursor StationEntry.presenceCandidate).map .presence

/-- The roster's bid in RUNNING: roll call first in an even round, presence check first in an odd one (R77). -/
def Roster.bid (r : Roster) (f : FrameNo) : Option RosterBid :=
  if evenRound f then r.rollBid.or r.presenceBid else r.presenceBid.or r.rollBid

/-- The cell of a bid is sent; the activity's cursor moves to the address after the chosen one (R78, R80). -/
def State.sendBid (b : RosterBid) (s : State) : State :=
  match b with
  | .roll a =>
    (s.withRoster { s.roster with rollCursor := a + 1 }).withPort
      { s.port.drive (cellBytes (packHeader cellRoll (addrField a) 0 0) Buf.zero) with
        pair := some ⟨.rollCall, a, 0⟩ }
  | .presence a =>
    (s.withRoster { s.roster with presenceCursor := a + 1 }).withPort
      { s.port.drive (cellBytes (packHeader cellProbe (addrField a) 0 0) Buf.zero) with
        pair := some ⟨.presenceCheck, a, 0⟩ }

/-- Frames since heard goes up by 1, up to 64, for each ACTIVE or FAULTY entry (R76). -/
def StationEntry.advance (e : StationEntry) : StationEntry :=
  if (e.state == .active || e.state == .faulty) && decide (e.sinceHeard < Config.heardLimit) then
    { e with sinceHeard := e.sinceHeard + 1 }
  else e

/-- A station entry at frames stopping (R91). -/
def StationEntry.atFramesStopping (e : StationEntry) : StationEntry :=
  { e with state := if e.state = .faulty then .active else e.state, missCount := 0, sinceHeard := 0 }

/-- Every station entry changed by `f`. -/
def State.mapEntries (f : StationEntry → StationEntry) (s : State) : State :=
  s.withRoster { s.roster with entries := s.roster.entries.map f }

end Sys2Proof.Machine
end

