-- ==== Sys2Proof/Machine/ScheduleOps.lean ====
section
/-! DEFINITION. The schedule block: the use of a slot, validation of a draft, carrying out an adoption (R24 to R48). -/

namespace Sys2Proof.Machine

/-! ### Use of a slot (R27) -/

/-- The use of a slot in a frame (R27). -/
inductive SlotUse where
  | openSlot
  | replySlot
  | circuit (id : CircuitId) (position : Nat)
  | unused
deriving DecidableEq, Repr

/-- The position of slot `k` in a circuit that is due in frame `f`, if the circuit names it (R26, R27). -/
def CircuitDef.positionAt (k : Nat) (f : FrameNo) (c : CircuitDef) : Option Nat :=
  if c.due f ∧ k ∈ c.slots then some (c.slots.idxOf k) else none

/-- The use that a live circuit makes of slot `k` in frame `f` (R27). -/
def LiveSchedule.circuitUse (l : LiveSchedule) (k : Nat) (f : FrameNo) : Option SlotUse :=
  (List.finRange 32).findSome? fun id =>
    match l.circuits.get id with
    | none => none
    | some c => (c.defn.positionAt k f).map (.circuit id)

/-- The use of slot `k` in frame `f` by the live schedule (R27). -/
def LiveSchedule.use (l : LiveSchedule) (k : Nat) (f : FrameNo) : SlotUse :=
  if k ∈ l.pairs then .openSlot
  else if k ≠ 0 ∧ k - 1 ∈ l.pairs then .replySlot
  else (l.circuitUse k f).getD .unused

/-- The use of slot `k` in frame `f`; none while no live schedule exists (R27). -/
def State.slotUse (k : Nat) (s : State) : SlotUse :=
  match s.sched.live with
  | some l => l.use k s.frame
  | none => .unused

/-! ### Validation (R35 to R37) -/

/-- The draft's circuit definitions (R23). -/
def Draft.defs (d : Draft) : List CircuitDef := d.circuits.toList.filterMap id

/-- Slot `k` is used by an open pair: it is `s` or `s + 1` for an entry `s` (R35). -/
def usedByPair (pairs : List Nat) (k : Nat) : Bool := pairs.any fun s => k == s || k == s + 1

/-- Slot `k` is used by a circuit (R35). -/
def usedByCircuit (defs : List CircuitDef) (k : Nat) : Bool := defs.any fun c => c.slots.contains k

/-- Two circuits collide on a slot that they share: their phases agree modulo the smaller divisor (R37). -/
def CircuitDef.collide (a b : CircuitDef) : Bool :=
  a.phase % min a.divisor b.divisor == b.phase % min a.divisor b.divisor

/-- Slot `k` is shared by some pair of colliding circuits (R37). -/
def collisionAt (k : Nat) : List CircuitDef → Bool
  | [] => false
  | a :: rest =>
    (a.slots.contains k && rest.any fun b => b.slots.contains k && a.collide b) || collisionAt k rest

/-- The lowest slot number 0 to 63 with a property (R35 to R37: each check names the lowest slot that offends). -/
def lowestSlot (p : Nat → Bool) : Option Nat := (List.range 64).find? p

/-- The detail of CONFLICT where the open-pair list is empty: FFh names no slot (R35). -/
def noSlotDetail : Nat := 0xFF

/-- The four checks of validation in their order, against S; the detail of the first that fails (R35, R36, R37). -/
def Draft.conflict (slots : Nat) (d : Draft) : Option Nat :=
  if d.pairs = [] then some noSlotDetail
  else
    (lowestSlot fun k => decide (slots ≤ k) && (usedByPair d.pairs k || usedByCircuit d.defs k)).or
      ((lowestSlot fun k => usedByPair d.pairs k && usedByCircuit d.defs k).or
        (lowestSlot fun k => collisionAt k d.defs))

/-- Whether the live schedule gives slot `k` to a circuit or a pair (R3). -/
def LiveSchedule.uses (l : LiveSchedule) (k : Nat) : Bool :=
  usedByPair l.pairs k || usedByCircuit ((l.circuits.toList.filterMap id).map LiveCircuit.defn) k

/-- The lowest slot of the live schedule that is not below S (R3). -/
def LiveSchedule.beyond (slots : Nat) (l : LiveSchedule) : Option Nat :=
  lowestSlot fun k => decide (slots ≤ k) && l.uses k

/-! ### Adoption (R44 to R47) -/

/-- Same direction and same station (R44). -/
def CircuitDef.sameEnds (a b : CircuitDef) : Bool :=
  match a.ends, b.ends with
  | .out d _, .out e _ => d == e
  | .inn x _, .inn y _ => x == y
  | .out _ _, .inn _ _ => false
  | .inn _ _, .out _ _ => false

/-- The run state a circuit made new takes from its station (R46, R51). -/
def CircuitDef.newRunState (entries : Table StationEntry 30) (c : CircuitDef) : RunState :=
  match c.station? with
  | none => .running
  | some a => if (entries.get a).state.fit then .running else .stalled

/-- A circuit made new (R46). -/
def CircuitDef.makeNew (entries : Table StationEntry 30) (c : CircuitDef) : LiveCircuit :=
  ⟨c, CircuitRun.fresh (c.newRunState entries)⟩

/-- A circuit that is kept: purged with its copies discarded when the width changed; otherwise its queue is trimmed
to the new depth from the tail (R47). -/
def LiveCircuit.keep (new : CircuitDef) (c : LiveCircuit) : LiveCircuit :=
  if new.width ≠ c.defn.width then
    ⟨new, { c.run with queue := [], lastSent := none, lastDelivered := none }⟩
  else if new.isOut then ⟨new, { c.run with queue := c.run.queue.take new.depth }⟩
  else ⟨new, c.run⟩

/-- The live circuit of one id after an adoption (R44, Table 2.2). -/
def adoptId (entries : Table StationEntry 30) (old : Option LiveCircuit) (new : Option CircuitDef) :
    Option LiveCircuit :=
  match old, new with
  | _, none => none
  | none, some d => some (d.makeNew entries)
  | some c, some d => some (if c.defn.sameEnds d then c.keep d else d.makeNew entries)

/-- Whether an id is closed by an adoption (R44, Table 2.2). -/
def closesId (old : Option LiveCircuit) (new : Option CircuitDef) : Bool :=
  match old, new with
  | none, _ => false
  | some _, none => true
  | some c, some d => !c.defn.sameEnds d

/-- The closed list of an adoption: ids in ascending order (R44). -/
def State.closedIds (s : State) : List CircuitId :=
  (List.finRange 32).filter fun id => closesId (s.liveTable.get id) (s.sched.draft.circuits.get id)

/-- The table of live circuits after an adoption (R44). -/
def State.adoptedTable (s : State) : Table (Option LiveCircuit) 32 :=
  Table.ofFn fun id => adoptId s.roster.entries (s.liveTable.get id) (s.sched.draft.circuits.get id)

/-- An adoption is carried out: the draft becomes the live schedule, the buffers that circuits let go return to the
pool, the pending flag is clear, the draft is left as it was (R44 to R47, R136). -/
def State.carryOutAdoption (s : State) : State :=
  let after := s.adoptedTable
  (s.onDelivery (Delivery.giveBack (s.circuitsHeld - after.sum heldBy))).withSched
    { s.sched with live := some ⟨after, s.sched.draft.pairs⟩, adoptPending := false }

/-- An adoption while frames run or as they stop: carried out, then a SCHEDULE record with the frame number and the
closed list is offered (R39, R42, R48). -/
def State.adoptWithRecord (s : State) : State :=
  s.carryOutAdoption.offerEvent (.schedule s.frame s.closedIds)

end Sys2Proof.Machine
end

