-- ==== Sys2Proof/Machine/PairOps.lean ====
section
/-! DEFINITION. The open-pair arbiter and what a REPLY slot's judgement does (R14 to R17, R77 to R83, R95, R96,
R104, R105, R113, R126). -/

namespace Sys2Proof.Machine

/-! ### The arbiter (R95) -/

/-- NULL is sent: kind 5, address 0, token 0, flags 0, eight zero bytes; nothing is expected (R80, R96). -/
def State.sendNull (s : State) : State :=
  s.withPort { s.port.drive (cellBytes (packHeader cellNull 0 0 0) Buf.zero) with pair := none }

/-- The turn marker names a requester (R95). -/
def State.setTurn (t : Turn) (s : State) : State := s.withEngine { s.engine with turn := t }

/-- The host queue is asked: `true` if it takes the pair, which makes the turn marker BATCH (R95, R100). -/
def State.askHost (s : State) : State × Bool :=
  let (s, chosen) := s.examine s.engine.queue
  match chosen with
  | some r => ((s.issueHost r).setTurn .batch, true)
  | none => (s, false)

/-- The batch unit is asked: `true` if it takes the pair, which makes the turn marker HOST (R95, R124). -/
def State.askBatch (s : State) : State × Bool :=
  match s.batchEligible with
  | some (l, r, c, it) => ((s.issueBatch l r c it).setTurn .host, true)
  | none => (s, false)

/-- The requester named by the turn marker is asked first, then the other; NULL if neither has work (R95). -/
def State.serveByTurn (s : State) : State :=
  match s.engine.turn with
  | .host =>
    let (s, served) := s.askHost
    if served then s
    else
      let (s, served) := s.askBatch
      if served then s else s.sendNull
  | .batch =>
    let (s, served) := s.askBatch
    if served then s
    else
      let (s, served) := s.askHost
      if served then s else s.sendNull

/-- Whether the pair of OPEN slot `k` is the first open pair of a round-start frame (R25, R77). -/
def State.firstPairOfRound (k : Nat) (s : State) : Bool :=
  roundStart s.frame &&
    match s.sched.live with
    | some l => l.pairs.min? == some k
    | none => false

/-- The arbiter's decision at the opening of OPEN slot `k` (R79, R95). -/
def State.arbitrate (k : Nat) (s : State) : State :=
  if s.port.trunk = .starting then
    match s.roster.rollBid with
    | some b => s.sendBid b
    | none => s.sendNull
  else if s.firstPairOfRound k then
    match s.roster.bid s.frame with
    | some b => s.sendBid b
    | none => s.serveByTurn
  else s.serveByTurn

/-! ### Judgement (R16) -/

/-- The judgement of a listen slot that expects `kind` from `station` and, where given, a token (R16). -/
def judge (line : SlotLine) (kind : BitVec 4) (station : StAddr) (token : Option Token) : Judgement :=
  match line with
  | .silent => .silent
  | .cell c _ =>
    if c.ended ∧ c.check = cellCheck c.header c.payload ∧ headerKind c.header = kind
        ∧ headerAddr c.header = addrField station
        ∧ (token = none ∨ token = some (headerToken c.header))
    then .good c.payload
    else .bad

/-- The cell kind that the port expects in the REPLY slot of a pair (R15, Table 1.3). -/
def PairUser.answerKind : PairUser → BitVec 4
  | .rollCall => cellIdent
  | .presenceCheck => cellHere
  | .hostRecord _ => cellAnswer
  | .batchItem _ _ => cellAnswer

/-- The token that the port tests: only for ANSWER (R16, R171). -/
def Pair.expectedToken (p : Pair) : Option Token :=
  match p.user with
  | .rollCall => none
  | .presenceCheck => none
  | .hostRecord _ => some p.token
  | .batchItem _ _ => some p.token

/-- The judgement of the REPLY slot of a pair (R16). -/
def Pair.judge (p : Pair) (line : SlotLine) : Judgement :=
  Machine.judge line p.user.answerKind p.station p.expectedToken

/-- Whether a SILENT judgement of the pair's REPLY slot is counted: after REQUEST and PROBE, not after ROLL (R16). -/
def PairUser.countsSilence : PairUser → Bool
  | .rollCall => false
  | .presenceCheck => true
  | .hostRecord _ => true
  | .batchItem _ _ => true

/-- The port's counts of a judgement: bad cells for BAD, silent slots for SILENT where silence counts (R16, R21). -/
def Port.countJudgement (j : Judgement) (countsSilence : Bool) (p : Port) : Port :=
  match j with
  | .good _ => p
  | .bad => { p with badCells := satInc p.badCells }
  | .silent => { p with silentSlots := satIncIf countsSilence p.silentSlots }

/-- Every cell begun in a quiet slot is counted as a bad cell (R18, R21). -/
def Port.countQuiet (line : SlotLine) (p : Port) : Port :=
  match line with
  | .silent => p
  | .cell _ later => { p with badCells := satAdd (later + 1) p.badCells }

/-! ### What the owner of a REPLY slot does (R17) -/

/-- The judgement of a REPLY slot after REQUEST of a host record: it acts on the record if that is still ISSUED, and
the report follows; otherwise it is a stray (R104, R105, R113). -/
def State.hostAnswered (tag : Byte) (a : StAddr) (j : Judgement) (s : State) : State :=
  match s.engine.queue.find? fun r => r.tag == tag && r.attempt.state == .issued with
  | none => s.countStray j
  | some r =>
    let s := match r.attempt.answered s.cfg.retryLimit s.frame j with
      | .done data => s.completeHost r .done 0 data
      | .rejected reason => s.completeHost r .rejected reason []
      | .noAnswer => s.completeHost r .noAnswer 0 []
      | .waits att => s.setAttempt tag att
    s.report a j

/-- The judgement of a REPLY slot after REQUEST of a batch item: it acts on the item if that is still current and
ISSUED, and the report follows; otherwise it is a stray (R126, R131). -/
def State.batchAnswered (pass index : Nat) (a : StAddr) (j : Judgement) (s : State) : State :=
  match s.notedItem pass index with
  | none => s.countStray j
  | some (l, r, c) => (s.answerItem l r c j).report a j

/-- The judgement goes to the requester that used the pair (R17, R96). -/
def State.pairAnswered (p : Pair) (j : Judgement) (s : State) : State :=
  match p.user with
  | .rollCall => s.rollAnswered p.station j
  | .presenceCheck => s.report p.station j
  | .hostRecord tag => s.hostAnswered tag p.station j
  | .batchItem pass index => s.batchAnswered pass index p.station j

/-! ### What an IN circuit does with a judgement (R63, R64) -/

/-- A slot of an assembly takes its judgement (R63). -/
def State.judgeSlot (id : CircuitId) (c : LiveCircuit) (a : Assembly) (position : Nat) (j : Judgement) (s : State) :
    State :=
  s.setCircuit id { c with run := { c.run with assembly := some (a.judge position j) } }

/-- The assembly is complete: a miss if no position is GOOD, else heard and then the delivery decision (R64). -/
def State.completeUnit (id : CircuitId) (source : StAddr) (a : Assembly) (s : State) : State :=
  if a.status.any (· == .good) then (s.heard source).finishHeardUnit id
  else (s.endAssembly id).missed source

/-- The judgement of a slot of an IN circuit: discarded where no assembly is in progress (R52, R53, R62 to R64). -/
def State.circuitHeard (id : CircuitId) (position : Nat) (source : StAddr) (j : Judgement) (s : State) : State :=
  match s.circuit id with
  | none => s
  | some c =>
    match c.run.assembly with
    | none => s
    | some a =>
      let s := s.judgeSlot id c a position j
      if position + 1 = c.defn.width then s.completeUnit id source (a.judge position j) else s

/-- Whether the circuit of a listen slot is RUNNING when the slot closes, so that silence counts (R16; log entry
10). -/
def State.circuitRuns (id : CircuitId) (s : State) : Bool :=
  match s.circuit id with
  | none => false
  | some c => c.run.runState == .running

end Sys2Proof.Machine
end

