-- ==== Sys2Proof/Machine/FrameOps.lean ====
section
/-! DEFINITION. Frames: frame start, slots, collisions and the line fault, frames stopping; and the work that a row
leaves owed to the rows that follow it (R6 to R20, R39, R42, R106, R127, R144). -/

namespace Sys2Proof.Machine

/-! ### Frames stopping (R9) -/

/-- Why frames stop: by STOP, or by a line fault seen at a place (R9, R20). -/
inductive StopCause where
  | stop
  | halt (at_ : FaultPos)
deriving DecidableEq, Repr

/-- The trunk state after frames stop (R9). -/
def StopCause.trunk : StopCause → TrunkState
  | .stop => .ready
  | .halt _ => .halted

/-- The fault that a TRUNK record carries (R4, R20). -/
def StopCause.fault : StopCause → Option FaultPos
  | .stop => none
  | .halt p => some p

/-- The outcome that transactions end with (R114, R132). -/
def StopCause.outcome : StopCause → TxnOutcome
  | .stop => .trunkStopped
  | .halt _ => .trunkHalted

/-- The end cause of a batch run (R132). -/
def StopCause.endCause : StopCause → EndCause
  | .stop => .trunkStopped
  | .halt _ => .trunkHalted

/-- The port at frames stopping: timer disarmed, line released, stop-pending clear, the frame abandoned; frame
number, streak, counters and configuration record kept (R9, R20). -/
def Port.stopped (c : StopCause) (p : Port) : Port :=
  { p with
    trunk := c.trunk
    stopPending := false
    timer := .disarmed
    hit := false
    pos := .idle
    tx := none
    pair := none }

/-- What stands at place `k` of a list with `x` put in. -/
def insertAt {α : Type} (k : Nat) (x : α) (l : List α) : List α := l.take k ++ x :: l.drop k

/-- The port's own TRUNK record is offered (R4, R7, R20). -/
def State.trunkRecord (c : StopCause) (s : State) : State := s.offerEvent (.trunk c.trunk s.frame c.fault)

/-- A pending adoption is carried out as frames stop (R42). -/
def State.adoptAtStop (s : State) : State := if s.sched.adoptPending then s.adoptWithRecord else s

/-- One response to frames stopping that appends records (R9, R148). -/
inductive StopStep where
  | trunkRecord
  | adoption
  | batchEnd
  | complete (r : HostRecord)
deriving DecidableEq, Repr

/-- What a response does (R42, R114, R132, R148). -/
def State.stopStep (c : StopCause) (step : StopStep) (s : State) : State :=
  match step with
  | .trunkRecord => s.trunkRecord c
  | .adoption => s.adoptAtStop
  | .batchEnd => s.stopBatch c.outcome c.endCause
  | .complete r => s.completeHost r c.outcome 0 []

/-- The responses in one of the orders that the rules allow: the DONE records keep acceptance order, and the other
three stand anywhere among them. DESIGN CHOICE (log entry 4): a free choice of the order. -/
def stopOrder (draw : Nat) (queue : List HostRecord) : List StopStep :=
  let dones := queue.map StopStep.complete
  let n := dones.length
  insertAt (Config.freeChoice (draw + 2) % (n + 3)) .batchEnd
    (insertAt (Config.freeChoice (draw + 1) % (n + 2)) .adoption
      (insertAt (Config.freeChoice draw % (n + 1)) .trunkRecord dones))

/-- The responses are carried out one after another. -/
def State.stopSteps (c : StopCause) : List StopStep → State → State
  | [], s => s
  | step :: rest, s => (s.stopStep c step).stopSteps c rest

/-- At HALT the units that were cut short are given up; at STOP none is in flight (R69, R70). -/
def State.abandonAt (c : StopCause) (s : State) : State :=
  match c with
  | .stop => s
  | .halt _ => s.abandonUnits

/-- Frames stopping: the port, the circuits and the roster, then the responses that append records (R9, R42, R69,
R70, R91, R114, R132, R148). -/
def State.framesStop (c : StopCause) (s : State) : State :=
  let s := (s.withPort (s.port.stopped c)).abandonAt c
  let s := s.mapEntries StationEntry.atFramesStopping
  (s.withDraws (s.draws + 3)).stopSteps c (stopOrder s.draws s.engine.queue)

/-! ### Frame start (R10, R11, R13, R19) -/

/-- The number of the frame that the timer's expiry opens (R11). -/
def Port.nextFrameNo (p : Port) : FrameNo :=
  match p.timer with
  | .firstFrame => p.frameNo
  | .nextFrame => p.frameNo + 1
  | .disarmed => p.frameNo

/-- The port at a frame start: the frame number advances, the ended frame's flag is examined, the marker is sent.
`adopting` notes that an adoption was pending at a round start on which the trunk is, or becomes, RUNNING (R6, R11,
R13, R19, R39). -/
def Port.startFrame (adoptPending : Bool) (p : Port) : Port :=
  let f := p.nextFrameNo
  { p.drive (markerBytes f) with
    timer := .nextFrame
    frameNo := f
    streak := if p.collided then p.streak else 0
    collided := false
    pair := none
    pos := .marker (adoptPending && roundStart f && (p.trunk == .running || f == 16)) }

/-- What the roster, the engine and the batch unit do at a frame start while the trunk is RUNNING: frames since heard
advance and WAITING transactions become due (R76, R101, R127). -/
def State.runningFrameStart (s : State) : State :=
  ((s.mapEntries StationEntry.advance).markHostDue).markBatchDue

/-- The frame timer expires while frames run and no frame is in progress (R10). -/
def State.timerExpires (s : State) : Bool :=
  s.port.trunk.framesRun && s.port.timer != .disarmed && s.port.pos == .idle && !s.port.stopPending

/-- A frame start (R10 to R13, R19, R76, R101). -/
def State.startFrame (s : State) : State :=
  let s := s.withPort (s.port.startFrame s.sched.adoptPending)
  if s.port.trunk = .running then s.runningFrameStart else s

/-! ### Work owed after a frame start (R6, R39, R106, R127) -/

/-- Whether the frame has started and slot 0 has not opened. -/
def FramePos.inMarker : FramePos → Bool
  | .marker _ => true
  | .idle => false
  | .slotOpen _ _ => false
  | .slotClosed _ => false

/-- The trunk is to enter RUNNING at the start of frame 16 (R6). -/
def State.owesEntry (s : State) : Bool :=
  s.port.trunk == .starting && s.port.pos.inMarker && s.port.frameNo == 16

/-- The trunk leaves STARTING for RUNNING and a TRUNK record is offered; the frame start is then one in RUNNING (R6,
R76). -/
def State.enterRunning (s : State) : State :=
  ((s.withPort { s.port with trunk := .running }).runningFrameStart).offerEvent (.trunk .running s.frame none)

/-- A pending adoption is to be carried out at this frame start (R39). -/
def State.owesAdoption (s : State) : Bool :=
  s.port.trunk == .running && s.port.pos == .marker true && s.sched.adoptPending

/-- The adoption at a frame start is carried out, with its SCHEDULE record; the frame start owes no other: an ADOPT taken
later in the same marker waits for the next round start (R39, R41). -/
def State.adoptAtFrameStart (s : State) : State :=
  let s := s.adoptWithRecord
  s.withPort { s.port with pos := .marker false }

/-- Host records are to time out at this frame start (R106). -/
def State.owesTimeouts (s : State) : Bool :=
  s.port.trunk == .running && s.port.pos.inMarker && !s.timedOutRecords.isEmpty

/-- The deferred WAITING records past the defer window complete TIMED_OUT in queue order (R106). -/
def State.timeOutRecords (s : State) : State := s.completeAll .timedOut s.timedOutRecords

/-- The batch item is to time out at this frame start (R127). -/
def State.owesItemTimeout (s : State) : Bool :=
  s.port.trunk == .running && s.port.pos.inMarker && s.timedOutItem.isSome

/-- The deferred WAITING item past the defer window ends TIMED_OUT (R127). -/
def State.timeOutItem (s : State) : State :=
  match s.timedOutItem with
  | some (l, r, c) => s.endItem l r c ⟨.timedOut, []⟩
  | none => s

/-- ENTER_RUNNING carried out if owed. -/
def State.settleEntry (s : State) : State := if s.owesEntry then s.enterRunning else s
/-- ADOPTION_AT_ROUND_START carried out if owed. -/
def State.settleAdoption (s : State) : State := if s.owesAdoption then s.adoptAtFrameStart else s
/-- DEFER_TIMEOUT carried out if owed. -/
def State.settleTimeouts (s : State) : State := if s.owesTimeouts then s.timeOutRecords else s
/-- BATCH_ITEM_TIMEOUT carried out if owed. -/
def State.settleItemTimeout (s : State) : State := if s.owesItemTimeout then s.timeOutItem else s

/-- One of the six orders of the responses to a frame start that append records (R39, R127 fix none). -/
def State.settleInOrder (n : Nat) (s : State) : State :=
  match n % 6 with
  | 0 => s.settleAdoption.settleTimeouts.settleItemTimeout
  | 1 => s.settleAdoption.settleItemTimeout.settleTimeouts
  | 2 => s.settleTimeouts.settleAdoption.settleItemTimeout
  | 3 => s.settleTimeouts.settleItemTimeout.settleAdoption
  | 4 => s.settleItemTimeout.settleAdoption.settleTimeouts
  | _ => s.settleItemTimeout.settleTimeouts.settleAdoption

/-- What a frame start still owes is carried out, in a free order (R6, R39, R106, R127). DESIGN CHOICE (log entry
5). -/
def State.settleFrameStart (s : State) : State :=
  let s := s.settleEntry
  if s.owesAdoption || s.owesTimeouts || s.owesItemTimeout then
    (s.withDraws (s.draws + 1)).settleInOrder (Config.freeChoice s.draws)
  else s

/-! ### Work owed after a slot closing and after a removal (R7, R144) -/

/-- A pending STOP is to complete: the frame's last slot has closed (R7). -/
def State.owesStop (s : State) : Bool :=
  s.port.stopPending && s.port.trunk.framesRun && s.port.pos == .idle

/-- STOP_COMPLETE carried out if owed. -/
def State.settleStop (s : State) : State := if s.owesStop then s.framesStop .stop else s

/-- BATCH_ROOM_OFFER carried out if owed. -/
def State.settleRoom (s : State) : State := if s.roomOffered then s.takeRoom else s

/-- While the RESET pin is low the part does nothing (R22, R164). -/
def State.held (s : State) : Bool := s.link.pin != .released

/-- All the work that earlier rows have left owed is carried out (log entry 3). -/
def State.settle (s : State) : State :=
  if s.held then s else s.settleFrameStart.settleStop.settleRoom

/-! ### Slots (R14 to R18) -/

/-- The slot that opens next, if one does: slot 0 after the marker, else the slot after the one that closed (R14). -/
def State.nextSlot (s : State) : Option Nat :=
  if s.port.trunk.framesRun then
    match s.port.pos with
    | .marker _ => some 0
    | .slotClosed k => if k + 1 < s.cfg.slots then some (k + 1) else none
    | .idle => none
    | .slotOpen _ _ => none
  else none

/-- The REPLY slot of the pair in progress: listen where an answer is expected, else quiet (R14, Table 1.3). -/
def State.openReply (s : State) : SlotMode :=
  match s.port.pair with
  | some _ => .listenReply
  | none => .quiet

/-- The owner of slot `k`'s use decides, and transmits, listens or stays quiet (R14, R27). -/
def State.openUse (k : Nat) (s : State) : State × SlotMode :=
  match s.slotUse k with
  | .openSlot => (s.arbitrate k, .sendPair)
  | .replySlot => (s, s.openReply)
  | .circuit id position => s.openCircuit id position
  | .unused => (s, .quiet)

/-- Slot `k` opens (R14). -/
def State.openSlot (k : Nat) (s : State) : State :=
  let (s, mode) := (s.withPort s.port.release).openUse k
  s.withPort { s.port with pos := .slotOpen k mode }

/-- The place within the frame once slot `k` has closed: the frame's last slot ends it (R7, R10). -/
def FramePos.afterSlot (k slots : Nat) : FramePos := if k + 1 < slots then .slotClosed k else .idle

/-- The owner of a closing slot takes what it brought (R16 to R18, R61, R63). -/
def State.closeMode (mode : SlotMode) (line : SlotLine) (s : State) : State :=
  match mode with
  | .sendCircuit id position => s.closeOut id position
  | .sendPair => s
  | .listenCircuit id position source =>
    let j := judge line cellUpData source none
    (s.withPort (s.port.countJudgement j (s.circuitRuns id))).circuitHeard id position source j
  | .listenReply =>
    match s.port.pair with
    | none => s
    | some p =>
      let j := p.judge line
      (s.withPort { s.port.countJudgement j p.user.countsSilence with pair := none }).pairAnswered p j
  | .quiet => s.withPort (s.port.countQuiet line)

/-- Slot `k` closes: the line is released and the judgement handed on (R15 to R18). -/
def State.closeSlot (k : Nat) (mode : SlotMode) (line : SlotLine) (s : State) : State :=
  (s.withPort { s.port.release with pos := .afterSlot k s.cfg.slots }).closeMode mode line

/-- The open slot with its mode, if one is open while frames run. -/
def State.openNow (s : State) : Option (Nat × SlotMode) :=
  if s.port.trunk.framesRun then
    match s.port.pos with
    | .slotOpen k mode => some (k, mode)
    | .marker _ => none
    | .slotClosed _ => none
    | .idle => none
  else none

/-! ### Collisions and the line fault (R19, R20) -/

/-- Where a collision can be seen: the port is sending a marker or a cell in which none has been counted (R19). -/
def State.collisionPlace (s : State) : Option FaultPos :=
  if s.port.trunk.framesRun ∧ s.port.tx.isSome ∧ s.port.hit = false then
    match s.port.pos with
    | .marker _ => some .marker
    | .slotOpen k _ => some (.slot k)
    | .slotClosed _ => none
    | .idle => none
  else none

/-- The port counts a collision; the first one of a frame sets the flag and adds 1 to the streak (R19). -/
def Port.collide (p : Port) : Port :=
  { p with
    collisions := satInc p.collisions
    hit := true
    collided := true
    streak := if p.collided then p.streak else min Config.faultStreak (p.streak + 1) }

/-- A collision that is the first of its frame and brings the streak to 3 is a line fault (R19, R20). -/
def Port.lineFault (p : Port) : Bool := !p.collided && decide (Config.faultStreak ≤ p.streak + 1)

/-- A collision at a place; at a line fault frames stop by HALT there (R19, R20). -/
def State.collideAt (at_ : FaultPos) (s : State) : State :=
  if s.port.lineFault then (s.withPort s.port.collide).framesStop (.halt at_)
  else s.withPort s.port.collide

end Sys2Proof.Machine
end

