-- ==== Sys2Proof/Machine/LinkOps.lean ====
section
/-! DEFINITION. The host link: taking a request and answering it, the bytes of replies and notices, resets; and the
two forms that every row's meaning has (R151 to R170). -/

namespace Sys2Proof.Machine

/-- An outcome's state part: rows of this part always answer a next state (see NOTES.md, Stops). -/
abbrev Result := Host.Outcome State Fault Refusal

/-! ### Codes (R168 to R170) -/

/-- Result codes (R168). -/
def ResultCode.code : ResultCode → Byte
  | .ok => 0x00
  | .accepted => 0x01
  | .unknownKind => 0x10
  | .badLength => 0x11
  | .badField => 0x12
  | .wrongState => 0x13
  | .busy => 0x14
  | .tagBusy => 0x15
  | .queueFull => 0x16
  | .poolLow => 0x17
  | .noRoom => 0x18
  | .notFound => 0x19
  | .tooLate => 0x1A
  | .conflict => 0x1B

/-- A byte from a number. -/
def byteOf (n : Nat) : Byte := BitVec.ofNat 8 n

/-- Two bytes from a number, most significant first. -/
def halfOf (n : Nat) : List Byte := halfBytes (BitVec.ofNat 16 n)

/-- A flag as a byte: 0 clear, 1 set (R169). -/
def flagByte (b : Bool) : Byte := if b then 1 else 0

/-- Trunk states (Table 9.3). -/
def TrunkState.code : TrunkState → Byte
  | .off => 0
  | .ready => 1
  | .starting => 2
  | .running => 3
  | .halted => 4

/-- Station states (Table 9.5). -/
def StationState.code : StationState → Byte
  | .absent => 0
  | .found => 1
  | .active => 2
  | .faulty => 3
  | .lost => 4
  | .excluded => 5

/-- Batch states (Table 9.3). -/
def BatchState.code : BatchState → Byte
  | .empty => 0
  | .loaded _ => 1
  | .running _ _ => 2

/-- Slot statuses of a DATA notice (R170); a pending position never reaches a record. -/
def SlotStatus.code : SlotStatus → Byte
  | .pending => 0
  | .good => 1
  | .bad => 2
  | .silent => 3

/-- Outcome codes (R170). -/
def TxnOutcome.code : TxnOutcome → Byte
  | .done => 0x00
  | .rejected => 0x01
  | .noAnswer => 0x02
  | .timedOut => 0x03
  | .stationLost => 0x04
  | .stationExcluded => 0x05
  | .stationUnavailable => 0x06
  | .cancelled => 0x07
  | .cancelledUncertain => 0x08
  | .trunkStopped => 0x09
  | .trunkHalted => 0x0A
  | .aborted => 0x0B
  | .notRun => 0x0C

/-- End causes (R170). -/
def EndCause.code : EndCause → Byte
  | .complete => 0
  | .failedStop => 1
  | .aborted => 2
  | .trunkStopped => 3
  | .trunkHalted => 4

/-- STATION events (R170). -/
def StationEvent.code : StationEvent → Byte
  | .found => 1
  | .faulty => 2
  | .recovered => 3
  | .lost => 4
  | .rejoined => 5

/-- LOSS causes (R170). -/
def LossCause.code : LossCause → Byte
  | .underrun => 1
  | .noBuffer => 2
  | .noRoom => 3

/-- BOOT causes (R163). -/
def BootCause.code : BootCause → Byte
  | .power => 1
  | .pin => 2
  | .soft => 3

/-! ### Notices and BOOT (R170) -/

/-- An identity as a presence byte and eight bytes, zero when absent (R169, R170). -/
def identityBytes : Option Identity → List Byte
  | none => List.replicate 9 0
  | some i => 1 :: (halfBytes i.class_ ++ [i.revision] ++ wordBytes i.serial ++ [i.profile])

/-- Cause and fault position of a TRUNK notice (R170). -/
def faultBytes : Option FaultPos → List Byte
  | none => [0, 0]
  | some .marker => [1, 0xFF]
  | some (.slot k) => [1, byteOf k]

/-- The ids of a closed list (R168, R170). -/
def closedBytes (ids : List CircuitId) : List Byte := byteOf ids.length :: ids.map fun id => byteOf id.val

/-- The folded counts in their order (R169, R170). -/
def Folded.bytes (f : Folded) : List Byte :=
  halfBytes f.station ++ halfBytes f.trunk ++ halfBytes f.schedule ++ halfBytes f.loss

/-- An item of a PASS notice (R170). -/
def ItemOutcome.bytes (o : ItemOutcome) : List Byte := o.outcome.code :: byteOf o.data.length :: o.data

/-- The KIND of a record's notice (R165). -/
def DeliveryRecord.kind : DeliveryRecord → Byte
  | .data _ _ _ _ => 0x90
  | .done _ _ _ _ => 0x91
  | .pass _ _ _ _ _ => 0x92
  | .event (.station _ _ _ _ _) => 0x93
  | .event (.trunk _ _ _) => 0x94
  | .event (.schedule _ _) => 0x95
  | .event (.loss _ _ _) => 0x96
  | .overflow _ => 0x97

/-- The TAG of a record's notice: the operation's for DONE and PASS, 00h for the others (R152, R170). -/
def DeliveryRecord.tag : DeliveryRecord → Byte
  | .data _ _ _ _ => 0
  | .done t _ _ _ => t
  | .pass t _ _ _ _ => t
  | .event _ => 0
  | .overflow _ => 0

/-- The payload of a record's notice (R170, Table 9.6). -/
def DeliveryRecord.payload : DeliveryRecord → List Byte
  | .data id f status bufs =>
    byteOf id.val :: (halfBytes f ++ [byteOf bufs.length] ++ status.map SlotStatus.code ++ bufs.flatMap Buf.bytes)
  | .done _ o reason bs => o.code :: reason :: byteOf bs.length :: bs
  | .pass _ n final cause outcomes =>
    byteOf n :: flagByte final :: cause.code :: byteOf outcomes.length :: outcomes.flatMap ItemOutcome.bytes
  | .event (.station a ev replaced f identity) =>
    addrByte a :: ev.code :: flagByte replaced :: (halfBytes f ++ identityBytes identity)
  | .event (.trunk t f fault) => t.code :: (halfBytes f ++ faultBytes fault)
  | .event (.schedule f closed) => halfBytes f ++ closedBytes closed
  | .event (.loss id cause f) => byteOf id.val :: cause.code :: halfBytes f
  | .overflow f => f.bytes

/-- The frame of a record's notice (R152, R170). -/
def DeliveryRecord.frame (r : DeliveryRecord) : List Byte := frameBytes r.kind r.tag r.payload

/-- The frame of a reply: result code, detail, data (R157, R168). -/
def Reply.frame (r : Reply) : List Byte := frameBytes kindReply r.tag (r.result.code :: r.detail :: r.data)

/-- The BOOT frame: cause and silicon revision (R163). -/
def BootCause.frame (c : BootCause) : List Byte := frameBytes kindBoot 0 [c.code, Config.revision]

/-! ### Taking a request (R155 to R157) -/

/-- What a request's owner answers: result code, detail, data (R157). -/
structure Answer where
  result : ResultCode
  detail : Byte
  data : List Byte
deriving DecidableEq, Repr

/-- OK with a detail and no data. -/
def Answer.ok (detail : Nat) : Answer := ⟨.ok, byteOf detail, []⟩

/-- OK, detail 0, with data. -/
def Answer.okData (data : List Byte) : Answer := ⟨.ok, 0, data⟩

/-- ACCEPTED with a detail. -/
def Answer.accepted (detail : Nat) : Answer := ⟨.accepted, byteOf detail, []⟩

/-- A refusal with detail 0 (R156). -/
def Answer.refuse (r : ResultCode) : Answer := ⟨r, 0, []⟩

/-- A refusal that names a field or a slot (R156). -/
def Answer.refuseWith (r : ResultCode) (detail : Nat) : Answer := ⟨r, byteOf detail, []⟩

/-- The reply is formed and joins the list; the count of unanswered requests is the list's length (R155, R157). -/
def State.pushReply (tag : Byte) (a : Answer) (s : State) : State :=
  s.withLink { s.link with
    receiver := .hunting
    replies := s.link.replies ++ [⟨tag, a.result, a.detail, a.data⟩] }

/-- A good frame is discarded and counted while 4 requests are unanswered or a restart is pending (R155, R162). -/
def State.backlogged (s : State) : Bool :=
  s.link.restartPending || decide (Config.unansweredLimit ≤ s.link.replies.length)

/-- A good frame is discarded and counted in the backlog counter (R155). -/
def State.discardFrame (s : State) : State :=
  s.withLink { s.link with receiver := .hunting, backlog := satInc s.link.backlog }

/-- The form of a request row (R155, R156, R157): lost while the RESET pin is low; discarded for backlog; refused
with BAD_LENGTH; else its owner acts and answers at the same moment. `owner` gets and leaves every state but the
reply list. -/
def takeRequest (tag : Byte) (lengthOk : Bool) (owner : State → State × Answer) (s : State) : Result :=
  .next <|
    if s.held then s
    else
      let s := s.settle
      if s.backlogged then s.discardFrame
      else if lengthOk then
        let (s, a) := owner s
        s.pushReply tag a
      else s.pushReply tag (.refuse .badLength)

/-- The form of an event row: it acts if its occasion has come, after what earlier rows have left owed; else nothing
happens (log entries 2 and 3). -/
def onEvent (occasion : State → Bool) (act : State → State) (s : State) : Result :=
  .next <|
    if s.held then s
    else
      let s := s.settle
      if occasion s then act s else s

/-- The form of a row that carries out owed work (log entry 3). -/
def onOwed (owed : State → Bool) (act : State → State) (s : State) : Result :=
  .next <| if !s.held && owed s then act s else s

/-! ### The receiver's losses (R153, R154) -/

/-- The receiver is in a frame (R153). -/
def State.inFrame (s : State) : Bool := s.link.receiver != .hunting

/-- The receiver hunts again; a counter of the host link goes up (R153, R154). -/
def State.loseFrame (count : Link → Link) (s : State) : State :=
  s.withLink { count s.link with receiver := .hunting }

/-! ### Resets (R164) -/

/-- The host link rate of the straps (R151, Table 8.1). -/
def rateOf (rate1 rate0 : Bool) : LinkRate :=
  match rate1, rate0 with
  | false, false => .baud115200
  | false, true => .baud460800
  | true, false => .baud1000000
  | true, true => .baud3000000

/-- Every block at its reset values, with the host link as given (R164). The queue of commands, the moments to come and
the count of free choices are the model's own and stay (log entry 19). -/
def State.resetBlocks (l : Link) (s : State) : State where
  port := Port.atReset
  sched := Sched.atReset
  roster := Roster.atReset
  engine := Engine.atReset
  batch := BatchUnit.atReset
  delivery := Delivery.atReset
  link := l
  draws := s.draws
  moments := s.moments
  pending := s.pending

/-- The host link after RESTART: the rate and the four host-link counters are kept (R164). -/
def Link.afterRestart (l : Link) : Link :=
  { Link.atReset l.rate .soft with
    timeouts := l.timeouts
    crcErrors := l.crcErrors
    formatErrors := l.formatErrors
    backlog := l.backlog }

/-- The soft restart (R162, R164). -/
def State.softRestart (s : State) : State := s.resetBlocks s.link.afterRestart

end Sys2Proof.Machine
end

