-- ==== Sys2Proof/Machine/Operands.lean ====
section
/-! DEFINITION. The operands of requests: the length check, the fields of each payload and the first field that
fails (R2, R28, R31, R98, R119, R166, R167). -/

namespace Sys2Proof.Machine

/-- Byte `i` of a payload, counted from 0. -/
def byteAt (p : List Byte) (i : Nat) : Byte := p.getD i 0

/-- Byte `i` of a payload as a number. -/
def numAt (p : List Byte) (i : Nat) : Nat := (byteAt p i).toNat

/-- Bytes `i` and `i + 1` of a payload as a number, most significant first. -/
def num2At (p : List Byte) (i : Nat) : Nat := numAt p i * 256 + numAt p (i + 1)

/-- The length check of a request of fixed layout: LEN is the payload length plus 2 (R166). -/
def fixedLength (n : Nat) (p : List Byte) : Bool := p.length == n && payloadFits p

/-- PUT: LEN 11, 19, 27 or 35 (R167). -/
def putLength (p : List Byte) : Bool :=
  p.length == 9 || p.length == 17 || p.length == 25 || p.length == 33

/-- SET_OPEN: LEN at least 3, and LEN − 3 equals the pair count carried (R167). -/
def setOpenLength (p : List Byte) : Bool :=
  decide (1 ≤ p.length) && p.length - 1 == numAt p 0 && payloadFits p

/-- TRANSACT: LEN at least 7, and LEN − 7 equals the data length carried (R167). -/
def transactLength (p : List Byte) : Bool :=
  decide (5 ≤ p.length) && p.length - 5 == numAt p 4 && payloadFits p

/-- A batch item as the frame carries it, its values not yet checked (R119). -/
structure RawItem where
  station : Nat
  action : Nat
  object : Nat
  length : Nat
  data : List Byte
deriving DecidableEq, Repr

/-- The walk over `n` items: each takes 5 bytes and as many data bytes as its data length says; `none` when the frame
holds too few (R167). Answers the items and the bytes left. -/
def walkItems : Nat → List Byte → Option (List RawItem × List Byte)
  | 0, bs => some ([], bs)
  | n + 1, bs =>
    match bs with
    | st :: ac :: oh :: ol :: dl :: rest =>
      if dl.toNat ≤ rest.length then
        match walkItems n (rest.drop dl.toNat) with
        | some (items, left) =>
          some (⟨st.toNat, ac.toNat, oh.toNat * 256 + ol.toNat, dl.toNat, rest.take dl.toNat⟩ :: items, left)
        | none => none
      else none
    | _ => none

/-- The items and the bytes left of a BATCH_LOAD payload (R167). -/
def batchWalk (p : List Byte) : Option (List RawItem × List Byte) := walkItems (numAt p 1) (p.drop 2)

/-- BATCH_LOAD: LEN at least 4, the walk succeeds, and 0 or 1 byte is left (R167). -/
def batchLoadLength (p : List Byte) : Bool :=
  decide (2 ≤ p.length) && payloadFits p &&
    match batchWalk p with
    | some (_, left) => decide (left.length ≤ 1)
    | none => false

/-! ### Fields that fail -/

/-- The number of the first field that fails, the fields given in their order (R156, R166). -/
def firstFault : List (Nat × Bool) → Option Nat
  | [] => none
  | (n, bad) :: rest => if bad then some n else firstFault rest

/-- The bit rate that a code names (R166). -/
def rateOfCode : Nat → Option BitRate
  | 1 => some .mbit2
  | 2 => some .mbit5
  | 3 => some .mbit10
  | _ => none

/-- Bit times in one 10 µs unit of the frame period (R1, R2). -/
def BitRate.bitsPerUnit : BitRate → Nat
  | .mbit2 => 20
  | .mbit5 => 50
  | .mbit10 => 100

/-- The bit times that a frame of S slots needs: the marker and S slots (R2, Figure 1.1). -/
def bitTimesNeeded (slots : Nat) : Nat := 32 + 128 * slots

/-- Whether the frame period is too short for the requested rate and S (R2). -/
def periodTooShort (rate slots period : Nat) : Bool :=
  match rateOfCode rate with
  | some r => decide (period * r.bitsPerUnit < bitTimesNeeded slots)
  | none => false

/-- CONFIGURE's first field that fails (R2). -/
def configureFault (p : List Byte) : Option Nat :=
  firstFault [
    (1, (rateOfCode (numAt p 0)).isNone),
    (2, decide (numAt p 1 < Config.leastSlots ∨ Config.mostSlots < numAt p 1)),
    (3, decide (num2At p 2 < 10 ∨ 2000 < num2At p 2) || periodTooShort (numAt p 0) (numAt p 1) (num2At p 2)),
    (4, decide (numAt p 4 < 1 ∨ 15 < numAt p 4)),
    (5, decide (numAt p 5 < 2 ∨ numAt p 5 ≤ numAt p 4)),
    (6, decide (7 < numAt p 6)),
    (7, decide (numAt p 7 = 0))]

/-- The configuration record that CONFIGURE carries (R1, R166). -/
def configureRecord (p : List Byte) : ConfigRecord where
  rate := (rateOfCode (numAt p 0)).getD .mbit2
  slots := numAt p 1
  period := num2At p 2
  missThreshold := numAt p 4
  lossLimit := numAt p 5
  retryLimit := numAt p 6
  deferWindow := numAt p 7

/-- Whether a station byte names a station address: 1 to 30 (R72, R85, R98, R119). -/
def stationLegal (n : Nat) : Bool := decide (1 ≤ n ∧ n ≤ 30)

/-- The station address of a legal station byte (R72). -/
def stationOf (n : Nat) : StAddr := Fin.ofNat 30 (n - 1)

/-- The circuit id of a legal circuit id byte (R24). -/
def circuitOf (n : Nat) : CircuitId := Fin.ofNat 32 n

/-- Whether slot entry `n` of DEFINE_CIRCUIT, from 1 to the slot count, fails: greater than 63, or not greater than
the entry before it (R28). -/
def slotEntryFails (p : List Byte) (n : Nat) : Bool :=
  decide (n ≤ numAt p 5) &&
    (decide (63 < numAt p (5 + n)) || (decide (2 ≤ n) && decide (numAt p (5 + n) ≤ numAt p (4 + n))))

/-- DEFINE_CIRCUIT's first field that fails (R28). -/
def defineFault (p : List Byte) : Option Nat :=
  let out := numAt p 1 == 1
  firstFault [
    (1, decide (31 < numAt p 0)),
    (2, decide (numAt p 1 ≠ 1 ∧ numAt p 1 ≠ 2)),
    (3, decide (numAt p 2 = 0 ∨ 31 < numAt p 2) || (numAt p 2 == 31 && !out)),
    (4, !([1, 2, 4, 8, 16].contains (numAt p 3))),
    (5, decide (numAt p 3 ≤ numAt p 4)),
    (6, decide (numAt p 5 = 0 ∨ 4 < numAt p 5)),
    (7, slotEntryFails p 1),
    (8, slotEntryFails p 2),
    (9, slotEntryFails p 3),
    (10, slotEntryFails p 4),
    (11, if out then decide (numAt p 10 = 0 ∨ 8 < numAt p 10) else decide (numAt p 10 ≠ 0)),
    (12, if out then decide (numAt p 11 ≠ 0) else decide (1 < numAt p 11))]

/-- Direction, station and the direction's own field that DEFINE_CIRCUIT carries (R24, R29). -/
def defineEnds (p : List Byte) : CircuitEnds :=
  if numAt p 1 = 1 then
    .out (if numAt p 2 = 31 then .broadcast else .station (stationOf (numAt p 2))) (numAt p 10)
  else .inn (stationOf (numAt p 2)) (numAt p 11 == 1)

/-- The definition that DEFINE_CIRCUIT stores: slot entries beyond the slot count are no part of it (R28, R29). -/
def defineDef (p : List Byte) : CircuitDef where
  ends := defineEnds p
  divisor := numAt p 3
  phase := numAt p 4
  slots := (List.range (numAt p 5)).map fun i => numAt p (6 + i)

/-- A circuit id field that fails: greater than 31 (R30, R55, R57, R68). -/
def idFault (p : List Byte) : Option Nat := firstFault [(1, decide (31 < numAt p 0))]

/-- Entry `n` of a SET_OPEN list, counted from 1 (R31). -/
def openEntryFails (p : List Byte) (n : Nat) : Bool :=
  decide (62 < numAt p n) || (decide (2 ≤ n) && decide (numAt p n < numAt p (n - 1) + 2))

/-- SET_OPEN's first field that fails; entry `n` is field `n + 1` (R31, R166). -/
def setOpenFault (p : List Byte) : Option Nat :=
  firstFault ((1, decide (numAt p 0 = 0 ∨ 16 < numAt p 0)) ::
    (List.range (numAt p 0)).map fun i => (i + 2, openEntryFails p (i + 1)))

/-- The open-pair list that SET_OPEN carries (R32). -/
def setOpenList (p : List Byte) : List Nat := (List.range (numAt p 0)).map fun i => numAt p (i + 1)

/-- The unit that PUT carries: buffer `k` holds data bytes `8k` to `8k + 7` (R55). -/
def putUnit (p : List Byte) : List Buf :=
  (List.range ((p.length - 1) / 8)).map (Buf.ofData (p.drop 1))

/-- The action that a code names (R166). -/
def actionOf : Nat → Option Action
  | 1 => some .fetch
  | 2 => some .store
  | 3 => some .swap
  | _ => none

/-- Whether a data length fits its action: 0 for FETCH, 1 to 4 for STORE and SWAP (R98, R119). -/
def lengthFits (action length : Nat) : Bool :=
  if action = 1 then length == 0 else decide (1 ≤ length ∧ length ≤ 4)

/-- TRANSACT's first field that fails (R98). -/
def transactFault (p : List Byte) : Option Nat :=
  firstFault [
    (1, !stationLegal (numAt p 0)),
    (2, (actionOf (numAt p 1)).isNone),
    (3, decide (4095 < num2At p 2)),
    (4, !lengthFits (numAt p 1) (numAt p 4))]

/-- The transaction that TRANSACT carries (R97, R98). -/
def transactRequest (p : List Byte) : TxnRequest where
  station := stationOf (numAt p 0)
  action := (actionOf (numAt p 1)).getD .fetch
  object := BitVec.ofNat 12 (num2At p 2)
  data := p.drop 5

/-- The fields of BATCH_LOAD item `n`, counted from 1, with their numbers (R119, R167). -/
def itemFaults (n : Nat) (it : RawItem) : List (Nat × Bool) :=
  [(5 * n - 2, !stationLegal it.station),
   (5 * n - 1, (actionOf it.action).isNone),
   (5 * n, decide (4095 < it.object)),
   (5 * n + 1, !lengthFits it.action it.length)]

/-- The fields of all items (R119, R167). -/
def itemsFaults : Nat → List RawItem → List (Nat × Bool)
  | _, [] => []
  | n, it :: rest => itemFaults n it ++ itemsFaults (n + 1) rest

/-- A pass count that fails: greater than 127, or 0 while the preset is 0 (R119, R122). -/
def countFails (preset k : Nat) : Bool := decide (127 < k) || (k == 0 && preset == 0)

/-- The run count that a BATCH_LOAD carries, if any (R119, R167). -/
def loadRunCount (p : List Byte) : Option Nat :=
  match batchWalk p with
  | some (_, b :: _) => some b.toNat
  | some (_, []) => none
  | none => none

/-- The raw items of a BATCH_LOAD (R167). -/
def loadRawItems (p : List Byte) : List RawItem :=
  match batchWalk p with
  | some (items, _) => items
  | none => []

/-- BATCH_LOAD's first field that fails; the run count is field `5c + 3` (R119, R167). -/
def batchLoadFault (preset : Nat) (p : List Byte) : Option Nat :=
  firstFault ([
      (1, decide (1 < numAt p 0)),
      (2, decide (numAt p 1 = 0 ∨ 15 < numAt p 1))]
    ++ itemsFaults 1 (loadRawItems p)
    ++ (match loadRunCount p with
        | some k => [(5 * numAt p 1 + 3, countFails preset k)]
        | none => []))

/-- A checked batch item (R118, R119). -/
def RawItem.request (it : RawItem) : TxnRequest where
  station := stationOf it.station
  action := (actionOf it.action).getD .fetch
  object := BitVec.ofNat 12 it.object
  data := it.data

/-- The list that BATCH_LOAD stores (R120). -/
def loadList (p : List Byte) : BatchList where
  items := (loadRawItems p).map RawItem.request
  policy := if numAt p 0 = 0 then .stop else .continue_

/-- An address field that fails (R85). -/
def addressFault (p : List Byte) : Option Nat := firstFault [(1, !stationLegal (numAt p 0))]

/-- ADMIT's first field that fails (R85, R86). -/
def admitFault (p : List Byte) : Option Nat :=
  firstFault [(1, !stationLegal (numAt p 0)), (2, decide (1 < numAt p 1))]

/-- READ_CIRCUIT's first field that fails (R68). -/
def readCircuitFault (p : List Byte) : Option Nat :=
  firstFault [(1, decide (31 < numAt p 0)), (2, decide (1 < numAt p 1))]

/-- The form of an owner whose first check is on its fields: BAD_FIELD with the field's number (R156). -/
def checkFields (fault : Option Nat) (go : State → State × Answer) (s : State) : State × Answer :=
  match fault with
  | some n => (s, .refuseWith .badField n)
  | none => go s

end Sys2Proof.Machine
end

