-- ==== Sys2Proof/Machine/BatchRequests.lean ====
section
/-! DEFINITION. BATCH_LOAD, BATCH_PRESET, BATCH_RUN, BATCH_ABORT (R119 to R122, R129). -/

namespace Sys2Proof.Machine

/-- K of a run: the count carried, or for 0 the preset (R120, R122). -/
def passCount (preset k : Nat) : Nat := if k = 0 then preset else k

/-- An accepted run: the preset is consumed by a count of 0, then pass 1 starts (R120, R122). -/
def State.acceptRun (l : BatchList) (tag : Byte) (k : Nat) (s : State) : State :=
  (s.withBatch { s.batch with preset := if k = 0 then 0 else s.batch.preset }).startRun l tag
    (passCount s.batch.preset k)

/-- BATCH_LOAD stores the list (R120). -/
def State.storeList (l : BatchList) (s : State) : State := s.setBatch (.loaded l)

/-- BATCH_LOAD with a run count: trunk state, tag, then the load and the run as one step (R119, R120). -/
def loadAndRun (tag : Byte) (l : BatchList) (k : Nat) (s : State) : State × Answer :=
  if s.port.trunk ≠ .running then (s, .refuse .wrongState)
  else if s.tagHeld tag then (s, .refuse .tagBusy)
  else ((s.storeList l).acceptRun l tag k, .accepted (passCount s.batch.preset k))

/-- BATCH_LOAD in EMPTY or LOADED (R119, R120). -/
def batchLoadIdle (tag : Byte) (l : BatchList) (count : Option Nat) (s : State) : State × Answer :=
  match count with
  | none => (s.storeList l, .ok l.items.length)
  | some k => loadAndRun tag l k s

/-- BATCH_LOAD by the batch state: BUSY in RUNNING (R119). -/
def batchLoadByState (tag : Byte) (l : BatchList) (count : Option Nat) (s : State) : State × Answer :=
  match s.batch.state with
  | .running _ _ => (s, .refuse .busy)
  | .empty => batchLoadIdle tag l count s
  | .loaded _ => batchLoadIdle tag l count s

/-- BATCH_LOAD (R119, R120). -/
def ownBatchLoad (tag : Byte) (p : List Byte) (s : State) : State × Answer :=
  checkFields (batchLoadFault s.batch.preset p) (batchLoadByState tag (loadList p) (loadRunCount p)) s

/-- BATCH_LOAD (R119, R120). -/
def execBatchLoad (tag : Byte) (payload : List Byte) (s : State) : Result :=
  takeRequest tag (batchLoadLength payload) (ownBatchLoad tag payload) s

/-- BATCH_PRESET sets the preset; the detail is the new value (R121). -/
def ownBatchPreset (p : List Byte) (s : State) : State × Answer :=
  checkFields (firstFault [(1, decide (127 < numAt p 0))])
    (fun s => (s.withBatch { s.batch with preset := numAt p 0 }, .ok (numAt p 0))) s

/-- BATCH_PRESET (R121). -/
def execBatchPreset (tag : Byte) (payload : List Byte) (s : State) : Result :=
  takeRequest tag (fixedLength 1 payload) (ownBatchPreset payload) s

/-- BATCH_RUN after its field check: LOADED and trunk RUNNING, the tag free (R122). -/
def batchRunByState (tag : Byte) (k : Nat) (s : State) : State × Answer :=
  match s.batch.state with
  | .empty => (s, .refuse .wrongState)
  | .running _ _ => (s, .refuse .wrongState)
  | .loaded l =>
    if s.port.trunk ≠ .running then (s, .refuse .wrongState)
    else if s.tagHeld tag then (s, .refuse .tagBusy)
    else (s.acceptRun l tag k, .accepted (passCount s.batch.preset k))

/-- BATCH_RUN (R122). -/
def ownBatchRun (tag : Byte) (p : List Byte) (s : State) : State × Answer :=
  checkFields (firstFault [(1, countFails s.batch.preset (numAt p 0))]) (batchRunByState tag (numAt p 0)) s

/-- BATCH_RUN (R122). -/
def execBatchRun (tag : Byte) (payload : List Byte) (s : State) : Result :=
  takeRequest tag (fixedLength 1 payload) (ownBatchRun tag payload) s

/-- BATCH_ABORT on a pass that waits for room: the end is decided, unless it already was (R129). -/
def abortWaiting (l : BatchList) (r : BatchRun) (s : State) : State × Answer :=
  match r.decided with
  | some _ => (s, .ok 1)
  | none => (s.setBatch (.running l { r with decided := some .aborted }), .ok 1)

/-- BATCH_ABORT on a current item: an ISSUED one ends at its REPLY slot, a WAITING one ends ABORTED and a PENDING
one NOT_RUN at once (R129). -/
def abortItem (l : BatchList) (r : BatchRun) (c : CurrentItem) (s : State) : State × Answer :=
  match c.attempt.state with
  | .issued => (s.setBatch (.running l { r with abort := true }), .ok 1)
  | .waiting => (s.endItem l { r with abort := true } c ⟨.aborted, []⟩, .ok 0)
  | .queued => (s.endItem l { r with abort := true } c ⟨.notRun, []⟩, .ok 0)

/-- BATCH_ABORT by what the run is doing (R129). -/
def abortRun (l : BatchList) (r : BatchRun) (s : State) : State × Answer :=
  if r.abort then (s, .ok 1)
  else if r.waiting then abortWaiting l r s
  else
    match r.current with
    | some c => abortItem l r c s
    | none => (s, .ok 1)

/-- BATCH_ABORT (R129). -/
def ownBatchAbort (s : State) : State × Answer :=
  match s.batch.state with
  | .empty => (s, .refuse .wrongState)
  | .loaded _ => (s, .refuse .wrongState)
  | .running l r => abortRun l r s

/-- BATCH_ABORT (R129). -/
def execBatchAbort (tag : Byte) (payload : List Byte) (s : State) : Result :=
  takeRequest tag (fixedLength 0 payload) ownBatchAbort s

end Sys2Proof.Machine
end

