-- ==== Sys2Proof/Machine/CircuitRequests.lean ====
section
/-! DEFINITION. PUT, PURGE, READ_CIRCUIT (R55, R57, R68). -/

namespace Sys2Proof.Machine

/-- The form of PUT and PURGE: NOT_FOUND without a live definition, BAD_FIELD on the id for an IN circuit (R55,
R57). -/
def onLiveOut (id : CircuitId) (go : LiveCircuit → State → State × Answer) (s : State) : State × Answer :=
  match s.circuit id with
  | none => (s, .refuse .notFound)
  | some c => if c.defn.isOut then go c s else (s, .refuseWith .badField 1)

/-- A unit claims its buffers and joins the tail of the queue (R55). -/
def State.appendUnit (id : CircuitId) (c : LiveCircuit) (u : List Buf) (s : State) : State :=
  s.rehold id
    { c with run := { c.run with queue := c.run.queue ++ [u] } }

/-- PUT on a live OUT circuit: data size, queue room, pool, then the append (R55). -/
def putUnitOn (id : CircuitId) (u : List Buf) (c : LiveCircuit) (s : State) : State × Answer :=
  if u.length ≠ c.defn.width then (s, .refuseWith .badField 2)
  else if c.defn.depth ≤ c.run.queue.length then (s, .refuse .queueFull)
  else if s.delivery.outboundClaim u.length then
    (s.appendUnit id c u, .ok (c.run.queue.length + 1))
  else (s, .refuse .poolLow)

/-- PUT (R55). -/
def ownPut (p : List Byte) (s : State) : State × Answer :=
  checkFields (idFault p) (onLiveOut (circuitOf (numAt p 0)) (putUnitOn (circuitOf (numAt p 0)) (putUnit p))) s

/-- PUT (R55, R135). -/
def execPut (tag : Byte) (payload : List Byte) (s : State) : Result :=
  takeRequest tag (putLength payload) (ownPut payload) s

/-- PURGE removes every queued unit; the detail is their number (R57). -/
def purgeOn (id : CircuitId) (c : LiveCircuit) (s : State) : State × Answer :=
  (s.rehold id { c with run := { c.run with queue := [] } }, .ok c.run.queue.length)

/-- PURGE (R57). -/
def ownPurge (p : List Byte) (s : State) : State × Answer :=
  checkFields (idFault p) (onLiveOut (circuitOf (numAt p 0)) (purgeOn (circuitOf (numAt p 0)))) s

/-- PURGE (R57). -/
def execPurge (tag : Byte) (payload : List Byte) (s : State) : Result :=
  takeRequest tag (fixedLength 1 payload) (ownPurge payload) s

/-- The station field of a definition (R24, Table 9.1). -/
def CircuitEnds.stationByte : CircuitEnds → Byte
  | .out (.station a) _ => addrByte a
  | .out .broadcast _ => 31
  | .inn a _ => addrByte a

/-- The 12 bytes of a definition, unused slot entries 0 (R169, Table 9.4). -/
def definitionBytes (id : CircuitId) (c : CircuitDef) : List Byte :=
  [byteOf id.val, if c.isOut then 1 else 2, c.ends.stationByte, byteOf c.divisor, byteOf c.phase, byteOf c.width,
   byteOf (c.slots.getD 0 0), byteOf (c.slots.getD 1 0), byteOf (c.slots.getD 2 0), byteOf (c.slots.getD 3 0),
   byteOf c.depth, flagByte c.filterOn]

/-- A presence byte and the definition, zero when absent (R169). -/
def presenceBytes (id : CircuitId) : Option CircuitDef → List Byte
  | none => List.replicate 13 0
  | some c => 1 :: definitionBytes id c

/-- The six counters (Table 9.4). -/
def CircuitCounters.bytes (c : CircuitCounters) : List Byte :=
  halfBytes c.sent ++ halfBytes c.holds ++ halfBytes c.underruns ++ halfBytes c.delivered ++
    halfBytes c.suppressed ++ halfBytes c.dropped

/-- Run state, queue length, loss-reported flag and counters; all 0 when not live (R68, Table 9.4). -/
def runBytes : Option LiveCircuit → List Byte
  | none => List.replicate 15 0
  | some c =>
    [if c.run.runState = .running then 1 else 2, byteOf c.run.queue.length, flagByte c.run.lossReported] ++
      c.run.counters.bytes

/-- The 41 bytes of READ_CIRCUIT (R68, Table 9.4). -/
def readCircuitData (id : CircuitId) (s : State) : List Byte :=
  presenceBytes id (s.sched.draft.circuits.get id) ++
    presenceBytes id ((s.circuit id).map LiveCircuit.defn) ++ runBytes (s.circuit id)

/-- The loss-reported flag is cleared, and the counters if asked; nothing for an id that is not live (R68). -/
def State.clearCircuit (id : CircuitId) (counters : Bool) (s : State) : State :=
  match s.circuit id with
  | none => s
  | some c =>
    s.setCircuit id { c with run := { c.run with
      lossReported := false
      counters := if counters then CircuitCounters.zero else c.run.counters } }

/-- READ_CIRCUIT after its field checks (R68). -/
def readCircuitOn (id : CircuitId) (clear : Bool) (s : State) : State × Answer :=
  if (s.sched.draft.circuits.get id).isNone ∧ (s.circuit id).isNone then (s, .refuse .notFound)
  else (s.clearCircuit id clear, .okData (readCircuitData id s))

/-- READ_CIRCUIT (R68). -/
def ownReadCircuit (p : List Byte) (s : State) : State × Answer :=
  checkFields (readCircuitFault p) (readCircuitOn (circuitOf (numAt p 0)) (numAt p 1 == 1)) s

/-- READ_CIRCUIT (R68). -/
def execReadCircuit (tag : Byte) (payload : List Byte) (s : State) : Result :=
  takeRequest tag (fixedLength 2 payload) (ownReadCircuit payload) s

end Sys2Proof.Machine
end

