-- ==== Sys2Proof/Machine/LinkEvents.lean ====
section
/-! DEFINITION. Frames refused or lost on the host link (R153 to R156), and the transmitter (R143, R144, R159,
R163). -/

namespace Sys2Proof.Machine

/-! ### Frames refused or lost -/

/-- UNKNOWN_KIND: a good frame whose KIND is no request code is taken and refused, whatever its LEN (R156, R165). A
frame whose KIND is a request code is no such event. -/
def execUnknownKind (kind : Byte) (tag : Byte) (payload : List Byte) (s : State) : Result :=
  onEvent (fun _ => (Instr.unknownKind kind tag payload).wellFormed)
    (fun s => if s.backlogged then s.discardFrame else s.pushReply tag (.refuse .unknownKind)) s

/-- BACKLOG_DISCARD (R155, R162). -/
def execBacklogDiscard (s : State) : Result := onEvent State.backlogged State.discardFrame s

/-- CRC_ERROR: the CRC received disagrees with the one over LEN, KIND, TAG and payload (R153). -/
def execCrcError (body : List Byte) (crc : Half) (s : State) : Result :=
  onEvent (fun _ => (Instr.crcError body crc).wellFormed)
    (State.loseFrame fun l => { l with crcErrors := satInc l.crcErrors }) s

/-- Whether a frame can end so: an illegal LEN ends the frame that it is the LEN of, a character error only a frame that
the receiver is in; outside a frame the character is discarded (R151, R153). -/
def formatErrorOccurs (cause : FormatCause) (s : State) : Bool :=
  match cause with
  | .illegalLen len => (Instr.formatError (.illegalLen len)).wellFormed
  | .character => s.inFrame

/-- FORMAT_ERROR: an illegal LEN, or a character error inside a frame (R153). -/
def execFormatError (cause : FormatCause) (s : State) : Result :=
  onEvent (formatErrorOccurs cause)
    (State.loseFrame fun l => { l with formatErrors := satInc l.formatErrors }) s

/-- INTER_BYTE_TIMEOUT: only in a frame; time spent hunting is not limited (R154). -/
def execInterByteTimeout (s : State) : Result :=
  onEvent State.inFrame (State.loseFrame fun l => { l with timeouts := satInc l.timeouts }) s

/-! ### Transmitter -/

/-- The transmitter begins a frame (R159). -/
def State.transmit (kind : TxKind) (bytes : List Byte) (s : State) : State :=
  s.withLink { s.link with tx := some ⟨kind, bytes⟩ }

/-- Whether the transmitter is sending a frame of a kind. -/
def State.sending (kind : TxKind) (s : State) : Bool :=
  match s.link.tx with
  | some f => f.kind == kind
  | none => false

/-- The transmitter is free, and BOOT is pending (R159). -/
def State.bootReady (s : State) : Bool := s.link.tx.isNone && s.link.boot.isSome

/-- BOOT begins (R163). -/
def State.beginBoot (s : State) : State :=
  match s.link.boot with
  | some c => s.transmit .boot c.frame
  | none => s

/-- BOOT_TRANSMIT (R159, R163). -/
def execBootTransmit (s : State) : Result := onEvent State.bootReady State.beginBoot s

/-- BOOT has been sent whole and is no longer pending (R163). -/
def State.endBoot (s : State) : State := s.withLink { s.link with tx := none, boot := none }

/-- BOOT_SENT (R163). -/
def execBootSent (s : State) : Result := onEvent (State.sending .boot) State.endBoot s

/-- The transmitter is free, no BOOT is pending, and a reply waits (R159). -/
def State.replyReady (s : State) : Bool :=
  s.link.tx.isNone && s.link.boot.isNone && !s.link.replies.isEmpty

/-- The reply at the head of the list begins (R157, R159). -/
def State.beginReply (s : State) : State :=
  match s.link.replies with
  | [] => s
  | r :: _ => s.transmit .reply r.frame

/-- REPLY_TRANSMIT (R159). -/
def execReplyTransmit (s : State) : Result := onEvent State.replyReady State.beginReply s

/-- A reply has been sent whole: it leaves the list. With a restart pending and no reply left, it was the RESTART's
own, since no request is taken after it, and the soft restart takes place (R155, R159, R162). -/
def State.endReply (s : State) : State :=
  let s := s.withLink { s.link with tx := none, replies := s.link.replies.tail }
  if s.link.restartPending && s.link.replies.isEmpty then s.softRestart else s

/-- REPLY_SENT (R159, R162). -/
def execReplySent (s : State) : Result := onEvent (State.sending .reply) State.endReply s

/-- The transmitter is free with no BOOT and no reply to send, a record stands in the list, and a credit pays for it
(R143, R159). -/
def State.noticeReady (s : State) : Bool :=
  s.link.tx.isNone && s.link.boot.isNone && s.link.replies.isEmpty && !s.delivery.records.isEmpty
    && decide (1 ≤ s.delivery.credits)

/-- The head record's transmission begins and a credit is spent; the record stays at the head (R143). -/
def State.beginNotice (s : State) : State :=
  match s.delivery.records with
  | [] => s
  | r :: _ => (s.onDelivery Delivery.spendCredit).transmit .notice r.frame

/-- NOTICE_TRANSMIT (R143). -/
def execNoticeTransmit (s : State) : Result := onEvent State.noticeReady State.beginNotice s

/-- A notice has been sent whole: its record is removed, and the freed place takes an OVERFLOW record if any count is
above 0; otherwise a waiting batch pass is offered it, which the row BATCH_ROOM_OFFER carries out before any other
row (R144, R145, log entry 3). -/
def State.endNotice (s : State) : State :=
  (s.onDelivery fun d => d.removeHead.offerOverflow).withLink { s.link with tx := none }

/-- NOTICE_SENT (R144). -/
def execNoticeSent (s : State) : Result := onEvent (State.sending .notice) State.endNotice s

/-- BATCH_ROOM_OFFER (R123, R132, R144). -/
def execBatchRoomOffer (s : State) : Result := onOwed State.roomOffered State.takeRoom s

end Sys2Proof.Machine
end

