-- ==== Sys2Proof/Machine/LinkRequests.lean ====
section
/-! DEFINITION. HELLO, STATUS, RESTART, CREDIT (R146, R160 to R162). -/

namespace Sys2Proof.Machine

/-- The identity and the fixed capacities (R160, Table 9.2). -/
def helloData : List Byte :=
  halfBytes Config.vendor ++ halfBytes Config.part ++
    [Config.revision, byteOf Config.circuits, byteOf Config.stations, byteOf Config.leastSlots,
     byteOf Config.mostSlots] ++
    halfOf Config.poolBuffers ++
    [byteOf Config.deliveryEntries, byteOf Config.hostRecords, byteOf Config.batchItems]

/-- HELLO changes nothing (R160). -/
def ownHello (s : State) : State × Answer := (s, .okData helloData)

/-- HELLO (R160). -/
def execHello (tag : Byte) (payload : List Byte) (s : State) : Result :=
  takeRequest tag (fixedLength 0 payload) ownHello s

/-- The 40 bytes of STATUS; the count of unanswered requests includes this STATUS (R161, Table 9.3). -/
def statusData (s : State) : List Byte :=
  [s.port.trunk.code] ++ halfBytes s.port.frameNo ++
  [byteOf s.port.streak, flagByte s.sched.adoptPending, addrByte s.roster.rollCursor,
   addrByte s.roster.presenceCursor] ++
  halfOf s.delivery.free ++
  [byteOf s.delivery.records.length, byteOf (s.delivery.hostRes + s.delivery.batchRes.toNat),
   byteOf s.delivery.credits] ++
  s.delivery.folded.bytes ++
  [byteOf s.engine.queue.length, s.batch.state.code, byteOf s.link.tags.length,
   byteOf (s.link.replies.length + 1)] ++
  halfBytes s.port.badCells ++ halfBytes s.port.silentSlots ++ halfBytes s.port.collisions ++
  halfBytes s.engine.strays ++
  halfBytes s.link.timeouts ++ halfBytes s.link.crcErrors ++ halfBytes s.link.formatErrors ++
  halfBytes s.link.backlog

/-- The four line counters and the four host-link counters are set to 0 (R21, R161). -/
def State.clearCounters (s : State) : State :=
  ((s.withPort { s.port with badCells := 0, silentSlots := 0, collisions := 0 }).withEngine
    { s.engine with strays := 0 }).withLink
    { s.link with timeouts := 0, crcErrors := 0, formatErrors := 0, backlog := 0 }

/-- STATUS: data as the state stands, then the counters cleared if the flag is set (R161). -/
def ownStatus (p : List Byte) (s : State) : State × Answer :=
  checkFields (firstFault [(1, decide (1 < numAt p 0))])
    (fun s => (if numAt p 0 = 1 then s.clearCounters else s, .okData (statusData s))) s

/-- STATUS (R161). -/
def execStatus (tag : Byte) (payload : List Byte) (s : State) : Result :=
  takeRequest tag (fixedLength 1 payload) (ownStatus payload) s

/-- RESTART is marked as pending until its reply has been sent whole (R162). -/
def ownRestart (s : State) : State × Answer :=
  (s.withLink { s.link with restartPending := true }, .ok 0)

/-- RESTART (R162). -/
def execRestart (tag : Byte) (payload : List Byte) (s : State) : Result :=
  takeRequest tag (fixedLength 0 payload) ownRestart s

/-- CREDIT adds to the counter, saturating at 255; the detail is the new value (R146). -/
def ownCredit (p : List Byte) (s : State) : State × Answer :=
  checkFields (firstFault [(1, decide (numAt p 0 = 0))])
    (fun s =>
      let s := s.onDelivery (Delivery.addCredits (numAt p 0))
      (s, .ok s.delivery.credits)) s

/-- CREDIT (R146). -/
def execCredit (tag : Byte) (payload : List Byte) (s : State) : Result :=
  takeRequest tag (fixedLength 1 payload) (ownCredit payload) s

end Sys2Proof.Machine
end

