-- ==== Sys2Proof/Machine/PortRequests.lean ====
section
/-! DEFINITION. CONFIGURE, START, STOP (R1 to R8). -/

namespace Sys2Proof.Machine

/-- The configuration record replaced whole; a trunk in OFF becomes READY (R1, R3). -/
def State.install (r : ConfigRecord) (s : State) : State :=
  s.withPort { s.port with config := some r, trunk := .ready }

/-- The lowest slot of the live schedule beyond the new S; none without a live schedule (R3). -/
def State.liveBeyond (slots : Nat) (s : State) : Option Nat :=
  match s.sched.live with
  | some l => l.beyond slots
  | none => none

/-- CONFIGURE after its field checks (R3). -/
def configureByState (r : ConfigRecord) (s : State) : State × Answer :=
  match s.port.trunk with
  | .starting => (s, .refuse .wrongState)
  | .running => (s, .refuse .wrongState)
  | .halted => (s, .refuse .wrongState)
  | .off => (s.install r, .ok 0)
  | .ready =>
    match s.liveBeyond r.slots with
    | some k => (s, .refuseWith .conflict k)
    | none => (s.install r, .ok 0)

/-- CONFIGURE checks its fields first (R2). -/
def ownConfigure (p : List Byte) (s : State) : State × Answer :=
  checkFields (configureFault p) (configureByState (configureRecord p)) s

/-- CONFIGURE (R1 to R3). -/
def execConfigure (tag : Byte) (payload : List Byte) (s : State) : Result :=
  takeRequest tag (fixedLength 8 payload) (ownConfigure payload) s

/-- What START does: frame number 0, streak and flag clear, STARTING, timer armed for frame 0, turn marker HOST (R5,
R94). -/
def State.startTrunk (s : State) : State :=
  (s.withPort { s.port with
    frameNo := 0, streak := 0, collided := false, trunk := .starting, timer := .firstFrame }).withEngine
    { s.engine with turn := .host }

/-- START is taken in READY when a live schedule exists (R5). -/
def ownStart (s : State) : State × Answer :=
  match s.port.trunk with
  | .ready =>
    match s.sched.live with
    | some _ => (s.startTrunk, .ok 0)
    | none => (s, .refuse .wrongState)
  | .off => (s, .refuse .wrongState)
  | .starting => (s, .refuse .wrongState)
  | .running => (s, .refuse .wrongState)
  | .halted => (s, .refuse .wrongState)

/-- START (R5). -/
def execStart (tag : Byte) (payload : List Byte) (s : State) : Result :=
  takeRequest tag (fixedLength 0 payload) ownStart s

/-- STOP while frames run: at once where no frame is in progress, else pending until the frame's end (R7). -/
def State.stopRunning (s : State) : State :=
  if s.port.pos = .idle then s.framesStop .stop
  else s.withPort { s.port with stopPending := true }

/-- STOP by the trunk state (R7, R8). -/
def ownStop (s : State) : State × Answer :=
  match s.port.trunk with
  | .off => (s, .refuse .wrongState)
  | .ready => (s, .ok 0)
  | .halted => (s.withPort { s.port with trunk := .ready }, .ok 0)
  | .starting => (s.stopRunning, .ok 0)
  | .running => (s.stopRunning, .ok 0)

/-- STOP (R7, R8). -/
def execStop (tag : Byte) (payload : List Byte) (s : State) : Result :=
  takeRequest tag (fixedLength 0 payload) ownStop s

end Sys2Proof.Machine
end

