-- ==== Sys2Proof/Machine/Resets.lean ====
section
/-! DEFINITION. Power-on reset and the RESET pin (R22, R163, R164). -/

namespace Sys2Proof.Machine

/-- POWER_ON_RESET: every block at its reset values, straps sampled, BOOT pending with cause POWER. With the RESET
pin low at that moment the reset continues until the pin is released: no BOOT yet (R163, R164). -/
def execPowerOnReset (pinLow : Bool) (rate1 : Bool) (rate0 : Bool) (s : State) : Result :=
  .next (s.resetBlocks
    (if pinLow then { Link.atReset (rateOf rate1 rate0) .power with boot := none, pin := .heldFromPowerOn }
     else Link.atReset (rateOf rate1 rate0) .power))

/-- RESET driven low: the trunk frame in flight is abandoned and the line released, the frames in progress on the
host link are cut, HTX high (R22, R149, R164). -/
def State.assertReset (s : State) : State :=
  (s.withPort { s.port with timer := .disarmed, pos := .idle, tx := none, hit := false, pair := none }).withLink
    { s.link with receiver := .hunting, tx := none, pin := .held }

/-- RESET_PIN_ASSERT (R22). -/
def execResetPinAssert (s : State) : Result := onEvent (fun _ => true) State.assertReset s

/-- RESET_PIN_RELEASE: every block at its reset values, straps sampled, BOOT pending with cause PIN, or POWER where
the pin has been low since power-on (R163, R164). -/
def execResetPinRelease (rate1 : Bool) (rate0 : Bool) (s : State) : Result :=
  .next <|
    match s.link.pin with
    | .released => s
    | .held => s.resetBlocks (Link.atReset (rateOf rate1 rate0) .pin)
    | .heldFromPowerOn => s.resetBlocks (Link.atReset (rateOf rate1 rate0) .power)

end Sys2Proof.Machine
end

