-- ==== Sys2Proof/Machine/RosterRequests.lean ====
section
/-! DEFINITION. ADMIT, EXCLUDE, RELEASE, QUERY_STATION (R85 to R89). -/

namespace Sys2Proof.Machine

/-- ADMIT by the station's state (R86). -/
def admitOn (a : StAddr) (rejoin : Bool) (s : State) : State × Answer :=
  let e := s.entry a
  match e.state with
  | .found =>
    ((s.setEntry a { e with state := .active, autoRejoin := rejoin, missCount := 0, sinceHeard := 0 }).followStation a,
     .ok 0)
  | .active => (s.setEntry a { e with autoRejoin := rejoin }, .ok 0)
  | .faulty => (s.setEntry a { e with autoRejoin := rejoin }, .ok 0)
  | .absent => (s, .refuse .wrongState)
  | .lost => (s, .refuse .wrongState)
  | .excluded => (s, .refuse .wrongState)

/-- ADMIT (R85, R86). -/
def ownAdmit (p : List Byte) (s : State) : State × Answer :=
  checkFields (admitFault p) (admitOn (stationOf (numAt p 0)) (numAt p 1 == 1)) s

/-- ADMIT (R86). -/
def execAdmitStation (tag : Byte) (payload : List Byte) (s : State) : Result :=
  takeRequest tag (fixedLength 2 payload) (ownAdmit payload) s

/-- EXCLUDE: the cascade; the detail is the number of host transactions completed (R87). -/
def excludeOn (a : StAddr) (s : State) : State × Answer :=
  let (s, n) := s.excludeNow a
  (s, .ok n)

/-- EXCLUDE (R85, R87). -/
def ownExclude (p : List Byte) (s : State) : State × Answer :=
  checkFields (addressFault p) (excludeOn (stationOf (numAt p 0))) s

/-- EXCLUDE (R87). -/
def execExcludeStation (tag : Byte) (payload : List Byte) (s : State) : Result :=
  takeRequest tag (fixedLength 1 payload) (ownExclude payload) s

/-- RELEASE returns an EXCLUDED entry to ABSENT and clears it (R88). -/
def releaseOn (a : StAddr) (s : State) : State × Answer :=
  let e := s.entry a
  if e.state = .excluded then
    (s.setEntry a { e with state := .absent, identity := none, autoRejoin := false, missCount := 0, sinceHeard := 0 },
     .ok 0)
  else (s, .refuse .wrongState)

/-- RELEASE (R85, R88). -/
def ownRelease (p : List Byte) (s : State) : State × Answer :=
  checkFields (addressFault p) (releaseOn (stationOf (numAt p 0))) s

/-- RELEASE (R88). -/
def execReleaseStation (tag : Byte) (payload : List Byte) (s : State) : Result :=
  takeRequest tag (fixedLength 1 payload) (ownRelease payload) s

/-- Source and tag of an outstanding marker (Table 9.5). -/
def markerBytesOf : Option Marker → List Byte
  | none => [0, 0]
  | some m => [match m.source with
    | .host => 1
    | .batch => 2, m.tag]

/-- The 15 bytes of QUERY_STATION (R89, Table 9.5). -/
def StationEntry.bytes (e : StationEntry) : List Byte :=
  [e.state.code, byteOf e.missCount, byteOf e.sinceHeard] ++ identityBytes e.identity ++
    [flagByte e.autoRejoin] ++ markerBytesOf e.marker

/-- QUERY_STATION changes nothing (R89). -/
def ownQueryStation (p : List Byte) (s : State) : State × Answer :=
  checkFields (addressFault p) (fun s => (s, .okData (s.entry (stationOf (numAt p 0))).bytes)) s

/-- QUERY_STATION (R89). -/
def execQueryStation (tag : Byte) (payload : List Byte) (s : State) : Result :=
  takeRequest tag (fixedLength 1 payload) (ownQueryStation payload) s

end Sys2Proof.Machine
end

