-- ==== Sys2Proof/Machine/ScheduleRequests.lean ====
section
/-! DEFINITION. DEFINE_CIRCUIT, DROP_CIRCUIT, SET_OPEN, ADOPT, REVERT (R28 to R42). -/

namespace Sys2Proof.Machine

/-- The draft replaced. -/
def State.setDraft (d : Draft) (s : State) : State := s.withSched { s.sched with draft := d }

/-- The form of an editing request: BUSY while an adoption is pending (R29, R30, R32, R33). -/
def editDraft (go : State → State × Answer) (s : State) : State × Answer :=
  if s.sched.adoptPending then (s, .refuse .busy) else go s

/-- The definition of an id in the draft set or removed. -/
def State.setDefinition (id : CircuitId) (c : Option CircuitDef) (s : State) : State :=
  s.setDraft { s.sched.draft with circuits := s.sched.draft.circuits.set id c }

/-- DEFINE_CIRCUIT stores the definition; detail 1 if it replaced one (R29). -/
def ownDefineCircuit (p : List Byte) (s : State) : State × Answer :=
  checkFields (defineFault p)
    (editDraft fun s =>
      (s.setDefinition (circuitOf (numAt p 0)) (some (defineDef p)),
       .ok (s.sched.draft.circuits.get (circuitOf (numAt p 0))).isSome.toNat)) s

/-- DEFINE_CIRCUIT (R28, R29). -/
def execDefineCircuit (tag : Byte) (payload : List Byte) (s : State) : Result :=
  takeRequest tag (fixedLength 12 payload) (ownDefineCircuit payload) s

/-- DROP_CIRCUIT removes the definition (R30). -/
def ownDropCircuit (p : List Byte) (s : State) : State × Answer :=
  checkFields (idFault p)
    (editDraft fun s =>
      match s.sched.draft.circuits.get (circuitOf (numAt p 0)) with
      | none => (s, .refuse .notFound)
      | some _ => (s.setDefinition (circuitOf (numAt p 0)) none, .ok 0)) s

/-- DROP_CIRCUIT (R30). -/
def execDropCircuit (tag : Byte) (payload : List Byte) (s : State) : Result :=
  takeRequest tag (fixedLength 1 payload) (ownDropCircuit payload) s

/-- SET_OPEN replaces the draft's open-pair list whole (R32). -/
def ownSetOpen (p : List Byte) (s : State) : State × Answer :=
  checkFields (setOpenFault p)
    (editDraft fun s => (s.setDraft { s.sched.draft with pairs := setOpenList p }, .ok 0)) s

/-- SET_OPEN (R31, R32). -/
def execSetOpen (tag : Byte) (payload : List Byte) (s : State) : Result :=
  takeRequest tag (setOpenLength payload) (ownSetOpen payload) s

/-- The draft validated, then adopted: carried out at once where no frames run, with the closed list in the reply;
else accepted as pending (R34, R40, R41). `pending` says which. -/
def adoptValidated (pending : Bool) (s : State) : State × Answer :=
  match s.sched.draft.conflict s.cfg.slots with
  | some detail => (s, .refuseWith .conflict detail)
  | none =>
    if pending then (s.withSched { s.sched with adoptPending := true }, .accepted 0)
    else (s.carryOutAdoption, .okData (closedBytes s.closedIds))

/-- ADOPT by the trunk state (R34). -/
def ownAdopt (s : State) : State × Answer :=
  match s.port.trunk with
  | .off => (s, .refuse .wrongState)
  | .ready => editDraft (adoptValidated false) s
  | .halted => editDraft (adoptValidated false) s
  | .starting => editDraft (adoptValidated true) s
  | .running => editDraft (adoptValidated true) s

/-- ADOPT (R34, R40, R41). -/
def execAdopt (tag : Byte) (payload : List Byte) (s : State) : Result :=
  takeRequest tag (fixedLength 0 payload) ownAdopt s

/-- The live schedule as a draft; the empty draft where there is none (R33). -/
def Sched.liveAsDraft (c : Sched) : Draft :=
  match c.live with
  | some l => ⟨l.circuits.map (Option.map LiveCircuit.defn), l.pairs⟩
  | none => ⟨Table.replicate 32 none, []⟩

/-- REVERT makes the draft equal to the live schedule (R33). -/
def ownRevert (s : State) : State × Answer :=
  editDraft (fun s => (s.setDraft s.sched.liveAsDraft, .ok 0)) s

/-- REVERT (R33). -/
def execRevert (tag : Byte) (payload : List Byte) (s : State) : Result :=
  takeRequest tag (fixedLength 0 payload) ownRevert s

end Sys2Proof.Machine
end

