-- ==== Sys2Proof/Machine/TransactionRequests.lean ====
section
/-! DEFINITION. TRANSACT, CANCEL (R98, R110). -/

namespace Sys2Proof.Machine

/-- Acceptance: one delivery entry reserved, the tag held, a QUEUED record at the tail of the queue, in one step
(R98). -/
def State.acceptTransaction (tag : Byte) (r : TxnRequest) (s : State) : State :=
  ((s.onDelivery Delivery.reserveHost).holdTag tag).withEngine
    { s.engine with queue := s.engine.queue ++ [⟨tag, r, Attempt.fresh⟩] }

/-- TRANSACT's tag and resource checks and its acceptance (R98). -/
def transactByResources (tag : Byte) (r : TxnRequest) (s : State) : State × Answer :=
  if s.tagHeld tag then (s, .refuse .tagBusy)
  else if Config.hostRecords ≤ s.engine.queue.length then (s, .refuse .queueFull)
  else if s.delivery.hasRoom then (s.acceptTransaction tag r, .accepted (s.engine.queue.length + 1))
  else (s, .refuse .noRoom)

/-- TRANSACT after its field checks (R98, R99). -/
def transactByState (tag : Byte) (r : TxnRequest) (s : State) : State × Answer :=
  match s.port.trunk with
  | .off => (s, .refuse .wrongState)
  | .halted => (s, .refuse .wrongState)
  | .ready => transactByResources tag r s
  | .starting => transactByResources tag r s
  | .running => transactByResources tag r s

/-- TRANSACT (R98). -/
def ownTransact (tag : Byte) (p : List Byte) (s : State) : State × Answer :=
  checkFields (transactFault p) (transactByState tag (transactRequest p)) s

/-- TRANSACT (R98). -/
def execTransact (tag : Byte) (payload : List Byte) (s : State) : Result :=
  takeRequest tag (transactLength payload) (ownTransact tag payload) s

/-- CANCEL by the state of the record with the tag that its field names (R110). -/
def cancelTag (t : Byte) (s : State) : State × Answer :=
  match s.engine.queue.find? fun r => r.tag == t with
  | none => (s, .refuse .notFound)
  | some r =>
    match r.attempt.state with
    | .queued => (s.completeHost r .cancelled 0 [], .ok 0)
    | .waiting => (s.completeHost r .cancelledUncertain 0 [], .ok 0)
    | .issued => (s, .refuse .tooLate)

/-- CANCEL (R110). -/
def ownCancel (p : List Byte) (s : State) : State × Answer := cancelTag (byteAt p 0) s

/-- CANCEL (R110). -/
def execCancel (tag : Byte) (payload : List Byte) (s : State) : Result :=
  takeRequest tag (fixedLength 1 payload) (ownCancel payload) s

end Sys2Proof.Machine
end

