-- ==== Sys2Proof/Machine/TrunkEvents.lean ====
section
/-! DEFINITION. The trunk port's own events: frame start, slots, collisions, the completion of a STOP (R6 to R20,
R39, R106, R127). -/

namespace Sys2Proof.Machine

/-- FRAME_START (R10 to R13, R19, R76, R101). -/
def execFrameStart (s : State) : Result := onEvent State.timerExpires State.startFrame s

/-- ENTER_RUNNING (R6). -/
def execEnterRunning (s : State) : Result := onOwed State.owesEntry State.enterRunning s

/-- ADOPTION_AT_ROUND_START, after the entry into RUNNING where that is owed (R39). -/
def execAdoptionAtRoundStart (s : State) : Result :=
  onOwed (fun s => s.settleEntry.owesAdoption) (fun s => s.settleEntry.adoptAtFrameStart) s

/-- DEFER_TIMEOUT: every host record that the frame start times out, in queue order (R106). -/
def execDeferTimeout (s : State) : Result := onOwed State.owesTimeouts State.timeOutRecords s

/-- BATCH_ITEM_TIMEOUT (R127). -/
def execBatchItemTimeout (s : State) : Result := onOwed State.owesItemTimeout State.timeOutItem s

/-- The next slot opens (R14). -/
def State.openNext (s : State) : State :=
  match s.nextSlot with
  | some k => s.openSlot k
  | none => s

/-- SLOT_OPEN (R14, R27, R58, R60, R62, R77 to R80, R95, R100, R103, R124, R126). -/
def execSlotOpen (s : State) : Result := onEvent (fun s => s.nextSlot.isSome) State.openNext s

/-- The open slot closes (R16 to R18). -/
def State.closeNow (line : SlotLine) (s : State) : State :=
  match s.openNow with
  | some (k, mode) => s.closeSlot k mode line
  | none => s

/-- SLOT_CLOSE (R16 to R18, R61, R63 to R65, R74, R75, R80 to R84, R104, R105, R113, R126, R128 to R131). -/
def execSlotClose (line : SlotLine) (s : State) : Result :=
  onEvent (fun s => s.openNow.isSome) (State.closeNow line) s

/-- A collision where one can be seen (R19, R20). -/
def State.collideNow (s : State) : State :=
  match s.collisionPlace with
  | some p => s.collideAt p
  | none => s

/-- COLLISION (R19, R20). -/
def execCollision (s : State) : Result := onEvent (fun s => s.collisionPlace.isSome) State.collideNow s

/-- STOP_COMPLETE (R7, R9). -/
def execStopComplete (s : State) : Result := onOwed State.owesStop (State.framesStop .stop) s

end Sys2Proof.Machine
end

