-- ==== Sys2Proof/Machine/Dispatch.lean ====
section
/-! DEFINITION. One arm per row of opcode_table.json. -/

namespace Sys2Proof.Machine

def exec (i : Instr) (s : State) : Host.Outcome State Fault Refusal :=
  match i with
  | .hello tag payload => Sys2Proof.Machine.execHello tag payload s
  | .status tag payload => Sys2Proof.Machine.execStatus tag payload s
  | .restart tag payload => Sys2Proof.Machine.execRestart tag payload s
  | .credit tag payload => Sys2Proof.Machine.execCredit tag payload s
  | .configure tag payload => Sys2Proof.Machine.execConfigure tag payload s
  | .start tag payload => Sys2Proof.Machine.execStart tag payload s
  | .stop tag payload => Sys2Proof.Machine.execStop tag payload s
  | .defineCircuit tag payload => Sys2Proof.Machine.execDefineCircuit tag payload s
  | .dropCircuit tag payload => Sys2Proof.Machine.execDropCircuit tag payload s
  | .setOpen tag payload => Sys2Proof.Machine.execSetOpen tag payload s
  | .adopt tag payload => Sys2Proof.Machine.execAdopt tag payload s
  | .revert tag payload => Sys2Proof.Machine.execRevert tag payload s
  | .put tag payload => Sys2Proof.Machine.execPut tag payload s
  | .purge tag payload => Sys2Proof.Machine.execPurge tag payload s
  | .readCircuit tag payload => Sys2Proof.Machine.execReadCircuit tag payload s
  | .admitStation tag payload => Sys2Proof.Machine.execAdmitStation tag payload s
  | .excludeStation tag payload => Sys2Proof.Machine.execExcludeStation tag payload s
  | .releaseStation tag payload => Sys2Proof.Machine.execReleaseStation tag payload s
  | .queryStation tag payload => Sys2Proof.Machine.execQueryStation tag payload s
  | .transact tag payload => Sys2Proof.Machine.execTransact tag payload s
  | .cancel tag payload => Sys2Proof.Machine.execCancel tag payload s
  | .batchLoad tag payload => Sys2Proof.Machine.execBatchLoad tag payload s
  | .batchPreset tag payload => Sys2Proof.Machine.execBatchPreset tag payload s
  | .batchRun tag payload => Sys2Proof.Machine.execBatchRun tag payload s
  | .batchAbort tag payload => Sys2Proof.Machine.execBatchAbort tag payload s
  | .unknownKind kind tag payload => Sys2Proof.Machine.execUnknownKind kind tag payload s
  | .backlogDiscard => Sys2Proof.Machine.execBacklogDiscard s
  | .crcError body crc => Sys2Proof.Machine.execCrcError body crc s
  | .formatError cause => Sys2Proof.Machine.execFormatError cause s
  | .interByteTimeout => Sys2Proof.Machine.execInterByteTimeout s
  | .powerOnReset pinLow rate1 rate0 => Sys2Proof.Machine.execPowerOnReset pinLow rate1 rate0 s
  | .resetPinAssert => Sys2Proof.Machine.execResetPinAssert s
  | .resetPinRelease rate1 rate0 => Sys2Proof.Machine.execResetPinRelease rate1 rate0 s
  | .bootTransmit => Sys2Proof.Machine.execBootTransmit s
  | .bootSent => Sys2Proof.Machine.execBootSent s
  | .replyTransmit => Sys2Proof.Machine.execReplyTransmit s
  | .replySent => Sys2Proof.Machine.execReplySent s
  | .noticeTransmit => Sys2Proof.Machine.execNoticeTransmit s
  | .noticeSent => Sys2Proof.Machine.execNoticeSent s
  | .batchRoomOffer => Sys2Proof.Machine.execBatchRoomOffer s
  | .frameStart => Sys2Proof.Machine.execFrameStart s
  | .enterRunning => Sys2Proof.Machine.execEnterRunning s
  | .adoptionAtRoundStart => Sys2Proof.Machine.execAdoptionAtRoundStart s
  | .deferTimeout => Sys2Proof.Machine.execDeferTimeout s
  | .batchItemTimeout => Sys2Proof.Machine.execBatchItemTimeout s
  | .slotOpen => Sys2Proof.Machine.execSlotOpen s
  | .slotClose line => Sys2Proof.Machine.execSlotClose line s
  | .collision => Sys2Proof.Machine.execCollision s
  | .stopComplete => Sys2Proof.Machine.execStopComplete s

end Sys2Proof.Machine
end

