-- ==== Sys2Proof/Machine/Reception.lean ====
section
/-! DEFINITION. What happens on the part's lines between the rows: the host link's receiver character by character, cells
that begin on the trunk, the end of a transmission on the trunk (R13, R15, R18, R151 to R154; log entry 1). -/

namespace Sys2Proof.Machine

/-- The receiver takes a byte: hunting, it discards every byte but A5h, which starts a frame; in a frame it gathers the
byte, and the bytes may now end the frame as a row (R153). The row itself makes the receiver hunt again. -/
def Receiver.take (b : Byte) : Receiver → Receiver × Option Instr
  | .hunting => (if b = 0xA5 then .inFrame [] else .hunting, none)
  | .inFrame gathered => (.inFrame (gathered ++ [b]), frameEnd (gathered ++ [b]))

/-- The receiver replaced, and a row put at the end of the queue where one has come about. -/
def State.received (r : Receiver × Option Instr) (s : State) : State :=
  (s.withLink { s.link with receiver := r.1 }).withPending (s.pending ++ r.2.toList)

/-- A character time on HRX: with the start bit high the line is idle; a character error ends a frame the receiver is in
and is discarded by a receiver that hunts; any other character brings its byte (R151, R153). -/
def State.receiveChar (c : BitVec 10) (s : State) : State :=
  if charStarts c then
    if charBroken c then
      if s.inFrame then s.received (s.link.receiver, some (.formatError .character)) else s
    else s.received (s.link.receiver.take (charByte c))
  else s

/-- A gap of more than 2 ms on HRX: it abandons a frame the receiver is in (R154). -/
def State.receiveGap (s : State) : State :=
  if s.inFrame then s.received (s.link.receiver, some .interByteTimeout) else s

/-- A cell begins on TRX: in a quiet slot it is counted as it begins; in a listen slot it is judged at the closing, and
anywhere else it is no cell the port watches for (R16, R18). -/
def State.cellBegins (s : State) : State :=
  match s.openNow with
  | some (_, .quiet) => s.withPort { s.port with badCells := satInc s.port.badCells }
  | some (_, .sendCircuit _ _) => s
  | some (_, .sendPair) => s
  | some (_, .listenCircuit _ _ _) => s
  | some (_, .listenReply) => s
  | none => s

/-- What a moment does. While RESET is low HRX and TRX are ignored and TDE is low (R22, R164). -/
def State.meet (m : Moment) (s : State) : State :=
  if s.held then s
  else
    match m with
    | .hrxChar c => s.receiveChar c
    | .hrxGap => s.receiveGap
    | .trxCell => s.cellBegins
    | .ttxEnd => s.withPort s.port.release

/-- With no command waiting, the next moment comes; with none to come, the block idles (log entry 1). -/
def State.nextMoment (s : State) : State :=
  match s.moments with
  | [] => s
  | m :: rest => (s.withMoments rest).meet m

end Sys2Proof.Machine
end

