-- ==== Sys2Proof/Safety.lean ====
section
/-! DEFINITION. What the statements speak of: a safe outcome, a state in which a row is taken, and the laws of the
manual as properties of one state. Every law is a property that a step keeps; none mentions how the state came
about. -/

namespace Sys2Proof.Machine

/-- A safe outcome is a next state. -/
def safeOutcome (r : Host.Outcome State Fault Refusal) : Prop := ∃ t, r = .next t

/-- The RESET pin is released and no earlier row has left work owed: an event row acts on this very state. -/
def State.Open (s : State) : Prop := s.held = false ∧ s.settle = s

/-- A good frame that arrives in this state is taken as a request (R155). -/
def State.Takes (s : State) : Prop := s.Open ∧ s.backlogged = false

/-- The reply to a request joins the list and the receiver hunts again (R153, R157, R168). -/
def State.replied (tag : Byte) (result : ResultCode) (detail : Nat) (data : List Byte) (s : State) : State :=
  { s with
    link.receiver := .hunting
    link.replies := s.link.replies ++ [⟨tag, result, BitVec.ofNat 8 detail, data⟩] }

/-- A reply that reports success: OK or ACCEPTED (R168). -/
def ResultCode.success : ResultCode → Bool
  | .ok => true
  | .accepted => true
  | .unknownKind => false
  | .badLength => false
  | .badField => false
  | .wrongState => false
  | .busy => false
  | .tagBusy => false
  | .queueFull => false
  | .poolLow => false
  | .noRoom => false
  | .notFound => false
  | .tooLate => false
  | .conflict => false

/-! ### Pool (R137) -/

/-- The law of the pool: free buffers, buffers of circuits and buffers of DATA records number 512 (R137). -/
def State.PoolLaw (s : State) : Prop :=
  s.delivery.free + s.circuitsHeld + s.delivery.held = Config.poolBuffers

/-! ### Delivery queue, tags, transactions (R73, R139, R142, R158) -/

/-- The tag of the batch run in progress (R158). -/
def BatchState.tags : BatchState → List Byte
  | .empty => []
  | .loaded _ => []
  | .running _ r => [r.tag]

/-- Whether a batch run is in a pass, so that it holds its reservation (R123). -/
def BatchState.inPass : BatchState → Bool
  | .empty => false
  | .loaded _ => false
  | .running _ r => !r.waiting

/-- The run record is of one piece: an item is current exactly while a pass is in progress, and an end is decided only
while the pass waits for room and is one of the three that end a run (R118, R123, R129, R132). -/
def BatchState.shape : BatchState → Prop
  | .empty => True
  | .loaded _ => True
  | .running _ r =>
    (r.waiting = true → r.current = none) ∧ (r.waiting = false → r.current.isSome = true ∧ r.decided = none) ∧
      r.decided ≠ some .complete

/-- Reservations, occupancy and tags are those of the operations in progress (R116, R139, R142, R158). -/
structure State.Accounting (s : State) : Prop where
  /-- one host reservation per host record (R116) -/
  hostRes : s.delivery.hostRes = s.engine.queue.length
  /-- the batch reservation is held exactly while a pass is in progress (R123) -/
  batchRes : s.delivery.batchRes = s.batch.state.inPass
  /-- records plus reservations never number more than 128 (R142) -/
  occupancy : s.delivery.occupancy ≤ Config.deliveryEntries
  /-- at most 24 host records (R116) -/
  records : s.engine.queue.length ≤ Config.hostRecords
  /-- the tag table holds the tags of the host records and of the batch run, and no other (R158) -/
  tags : s.link.tags.Perm (s.engine.queue.map HostRecord.tag ++ s.batch.state.tags)
  /-- no tag is held twice (R158) -/
  distinct : s.link.tags.Nodup
  /-- the run record is of one piece (R118) -/
  shape : s.batch.state.shape

/-- The marker of a host record to station `a` that is in progress (R73). -/
def HostRecord.marking (a : StAddr) (r : HostRecord) : Bool := r.request.station == a && r.attempt.wasIssued

/-- The transactions of the host queue to station `a` that are in progress, as markers (R73). -/
def State.hostOutstanding (a : StAddr) (s : State) : List Marker :=
  (s.engine.queue.filter (HostRecord.marking a)).map fun r => ⟨.host, r.tag⟩

/-- The batch item to station `a` that is in progress, as a marker (R73). -/
def BatchState.outstanding (a : StAddr) : BatchState → List Marker
  | .empty => []
  | .loaded _ => []
  | .running l r =>
    match r.current with
    | none => []
    | some c =>
      match l.item c.index with
      | none => []
      | some it => if it.station = a ∧ c.attempt.wasIssued then [⟨.batch, r.tag⟩] else []

/-- The law of the outstanding marker: the transactions in progress to a station, host and batch together, are the one
that its marker names, or none (R73). -/
def State.MarkerLaw (s : State) : Prop :=
  ∀ a, s.hostOutstanding a ++ s.batch.state.outstanding a = (s.entry a).marker.toList

/-! ### Circuits (R51, R54, R56) -/

/-- The law of the queue: no OUT queue holds more units than its depth (R56). -/
def State.QueueLaw (s : State) : Prop :=
  ∀ id c, s.circuit id = some c → c.run.queue.length ≤ c.defn.depth

/-- Every live circuit has the run state of its station (R51). -/
def State.RunStateLaw (s : State) : Prop :=
  ∀ id c, s.circuit id = some c → c.run.runState = c.defn.newRunState s.roster.entries

/-- A unit is in flight or in assembly only in a circuit that is RUNNING (R54). -/
def State.UnitLaw (s : State) : Prop :=
  ∀ id c, s.circuit id = some c → c.run.runState = .stalled → c.run.flight = none ∧ c.run.assembly = none

/-! ### Schedule (R24, R25, R34, R38) -/

/-- A definition with the legal values of Table 2.1 (R24). Its id, its station and its filter are legal by their
types. -/
structure CircuitDef.Legal (c : CircuitDef) : Prop where
  divisor : c.divisor ∈ [1, 2, 4, 8, 16]
  phase : c.phase < c.divisor
  width : 1 ≤ c.slots.length ∧ c.slots.length ≤ 4
  slots : ∀ k ∈ c.slots, k ≤ 63
  ascending : c.slots.Pairwise (· < ·)
  depth : ∀ d n, c.ends = .out d n → 1 ≤ n ∧ n ≤ 8

/-- An open-pair list of entries 0 to 62, each at least 2 greater than the one before it, 16 at most; it may be empty
in a draft (R25, R31). -/
structure PairsLegal (pairs : List Nat) : Prop where
  count : pairs.length ≤ 16
  entries : ∀ k ∈ pairs, k ≤ 62
  apart : pairs.Pairwise (fun a b => a + 2 ≤ b)

/-- Every definition and both open-pair lists hold legal values only (R24, R25). -/
structure State.DefinitionsLegal (s : State) : Prop where
  draft : ∀ id c, s.sched.draft.circuits.get id = some c → c.Legal
  draftPairs : PairsLegal s.sched.draft.pairs
  live : ∀ id c, s.circuit id = some c → c.defn.Legal
  livePairs : ∀ l, s.sched.live = some l → PairsLegal l.pairs

/-- The schedule block between requests: a live schedule and a pending draft have passed validation against S, and an
adoption is pending only while frames run (R34, R41, R42). -/
structure State.ScheduleLaw (s : State) : Prop where
  live : ∀ l, s.sched.live = some l →
    s.port.trunk ≠ .off ∧ s.sched.liveAsDraft.conflict s.cfg.slots = none
  pending : s.sched.adoptPending = true →
    s.port.trunk.framesRun = true ∧ s.sched.draft.conflict s.cfg.slots = none

/-! ### Host link (R146, R155) -/

/-- At most 4 replies wait, and the credit counter is at most 255 (R146, R155). -/
def State.LinkLaw (s : State) : Prop :=
  s.link.replies.length ≤ Config.unansweredLimit ∧ s.delivery.credits ≤ Config.creditLimit

/-! ### Transactions as requests carry them (R98, R119) -/

/-- A transaction with legal values: as many data bytes as its action takes (R98, R119). Its station and its object
index are legal by their types. -/
def TxnRequest.Legal (r : TxnRequest) : Prop :=
  match r.action with
  | .fetch => r.data = []
  | .store => 1 ≤ r.data.length ∧ r.data.length ≤ 4
  | .swap => 1 ≤ r.data.length ∧ r.data.length ≤ 4

/-- The bytes of a transaction in TRANSACT and of an item in BATCH_LOAD: station, action, object index, data length,
data (R166, R167, Table 9.1). -/
def TxnRequest.bytes (r : TxnRequest) : List Byte :=
  [addrByte r.station, r.action.code] ++ halfBytes (r.object.setWidth 16) ++ [BitVec.ofNat 8 r.data.length] ++ r.data

/-- The payload of a BATCH_LOAD without a run count: policy, item count, items (R119, R167). -/
def BatchList.payload (l : BatchList) : List Byte :=
  (match l.policy with
    | .stop => 0
    | .continue_ => 1) :: BitVec.ofNat 8 l.items.length :: l.items.flatMap TxnRequest.bytes

/-- A list of 1 to 15 legal items (R119). -/
def BatchList.Legal (l : BatchList) : Prop :=
  1 ≤ l.items.length ∧ l.items.length ≤ 15 ∧ ∀ r ∈ l.items, r.Legal

/-! ### Records of the delivery queue -/

/-- Tag and outcome of a DONE record (R108). -/
def DeliveryRecord.doneTag? : DeliveryRecord → Option (Byte × TxnOutcome)
  | .done tag o _ _ => some (tag, o)
  | .data _ _ _ _ => none
  | .pass _ _ _ _ _ => none
  | .event _ => none
  | .overflow _ => none

/-- The rows that can put every block at its reset values: POWER_ON_RESET, RESET_PIN_RELEASE, and REPLY_SENT, which
ends the reply of a RESTART (R162, R164). -/
def MayReset (i : Instr) : Prop :=
  (∃ pinLow rate1 rate0, i = .powerOnReset pinLow rate1 rate0) ∨ (∃ rate1 rate0, i = .resetPinRelease rate1 rate0) ∨
    i = .replySent

/-! ### Adoption (R44 to R48) -/

/-- What carrying out an adoption makes of the schedule block and the circuits, from the live circuits `old`, the entries of
the stations and the draft: an id is closed, made new, or kept (its queue trimmed to the new depth, or purged with its
copies where its width changed); `closed` is the closed list in ascending order (R44 to R47). -/
structure AdoptsTo (old : CircuitId → Option LiveCircuit) (entries : Table StationEntry 30) (draft : Draft) (t : State)
    (closed : List CircuitId) : Prop where
  closed_iff : ∀ id : CircuitId, id ∈ closed ↔ ∃ c, old id = some c ∧
    ∀ d, draft.circuits.get id = some d → d.isOut ≠ c.defn.isOut ∨ d.station? ≠ c.defn.station?
  ascending : closed.Pairwise (· < ·)
  draftKept : t.sched.draft = draft
  pending : t.sched.adoptPending = false
  pairs : t.sched.live.map LiveSchedule.pairs = some draft.pairs
  circuits : ∀ id, t.circuit id = match draft.circuits.get id with
    | none => none
    | some d => some ⟨d, match old id with
      | none => CircuitRun.fresh (d.newRunState entries)
      | some c =>
        if d.isOut = c.defn.isOut ∧ d.station? = c.defn.station? then
          if d.width = c.defn.width then
            { c.run with queue := if d.isOut then c.run.queue.take d.depth else c.run.queue }
          else { c.run with queue := [], lastSent := none, lastDelivered := none }
        else CircuitRun.fresh (d.newRunState entries)⟩

/-- An adoption carried out by itself: the buffers let go return to the pool, and the other blocks stay as they are (R44 to
R47, R136). -/
structure Adopted (s t : State) (closed : List CircuitId) : Prop where
  schedule : AdoptsTo (fun id => s.circuit id) s.roster.entries s.sched.draft t closed
  pool : t.delivery.free + t.circuitsHeld = s.delivery.free + s.circuitsHeld
  others : t.roster = s.roster ∧ t.engine = s.engine ∧ t.batch = s.batch

/-! ### Frames stopping (R9, R114, R132, R148) -/

/-- The final PASS record of a pass that frames stopping ends: the current item takes the outcome, the items after it
NOT_RUN; none where no pass is in progress (R128, R130, R132). -/
def BatchState.finalPass (o : TxnOutcome) (cause : EndCause) : BatchState → List DeliveryRecord
  | .empty => []
  | .loaded _ => []
  | .running _ r =>
    match r.waiting, r.current with
    | false, some c => [.pass r.tag r.pass true cause
        ((r.outcomes.set (c.index - 1) (some ⟨o, []⟩)).map fun x => x.getD ⟨.notRun, []⟩)]
    | false, none => []
    | true, _ => []

/-- The records that frames stopping appends: a DONE record for every host record, in acceptance order, the final PASS
record, and in any place among them the TRUNK record and the SCHEDULE record of a pending adoption; events fold where the
occupancy, which DONE and PASS records leave as it is, is 128 (R9, R42, R48, R114, R132, R141, R148). `events` are the
TRUNK record and, with an adoption pending, the SCHEDULE record. -/
def StopRecords (d : Delivery) (dones passes events new : List DeliveryRecord) (folded : Folded) : Prop :=
  new.filter (fun r => r.doneTag?.isSome) = dones ∧
  (d.occupancy + events.length ≤ Config.deliveryEntries → new.Perm (dones ++ passes ++ events) ∧ folded = d.folded) ∧
  (Config.deliveryEntries ≤ d.occupancy → new.Perm (dones ++ passes) ∧
    folded = { d.folded with
      trunk := satInc d.folded.trunk
      schedule := if events.length = 2 then satInc d.folded.schedule else d.folded.schedule }) ∧
  (d.occupancy + 1 = Config.deliveryEntries → ∀ trunk schedule, events = [trunk, schedule] →
    (new.Perm (dones ++ passes ++ [trunk]) ∧ folded = { d.folded with schedule := satInc d.folded.schedule }) ∨
    (new.Perm (dones ++ passes ++ [schedule]) ∧ folded = { d.folded with trunk := satInc d.folded.trunk }))

/-! ### A station is lost or excluded (R84, R87, R112) -/

/-- The host records to a station in the order in which its loss or exclusion completes them: the one in progress, then the
others in queue order (R112). -/
def State.goneRecords (a : StAddr) (s : State) : List HostRecord :=
  (s.engine.queue.filter fun r => r.request.station == a && r.attempt.state != .queued) ++
    s.engine.queue.filter fun r => r.request.station == a && r.attempt.state == .queued

/-- What the loss or the exclusion of station `a` does before its batch item ends: the entry is `e`, a host record's marker
cleared; its circuits stall; its host records complete with outcome `o`, each with a DONE record in place of its
reservation and its tag released (R53, R84, R87, R108, R112). -/
structure StationGone (s : State) (a : StAddr) (e : StationEntry) (o : TxnOutcome) (t : State) : Prop where
  entry : t.entry a = { e with marker := match e.marker with
    | none => none
    | some ⟨.host, _⟩ => none
    | some ⟨.batch, tag⟩ => some ⟨.batch, tag⟩ }
  others : ∀ b, b ≠ a → t.entry b = s.entry b
  cursors : t.roster.rollCursor = s.roster.rollCursor ∧ t.roster.presenceCursor = s.roster.presenceCursor
  circuits : ∀ id, t.circuit id = (s.circuit id).map fun c =>
    if c.defn.station? = some a ∧ c.run.runState = .running then c.stall else c
  pool : t.delivery.free + t.circuitsHeld = s.delivery.free + s.circuitsHeld
  engine : t.engine = { s.engine with queue := s.engine.queue.filter fun r => r.request.station ≠ a }
  delivery : t.delivery = { s.delivery with
    free := t.delivery.free
    hostRes := s.delivery.hostRes - (s.goneRecords a).length
    records := s.delivery.records ++ (s.goneRecords a).map fun r => .done r.tag o 0 [] }
  link : t.link = { s.link with tags := s.link.tags.diff ((s.goneRecords a).map HostRecord.tag) }
  schedule : t.sched.draft = s.sched.draft ∧ t.sched.adoptPending = s.sched.adoptPending ∧
    t.sched.live.map LiveSchedule.pairs = s.sched.live.map LiveSchedule.pairs
  rest : t.port = s.port ∧ t.batch = s.batch ∧ t.draws = s.draws ∧ t.moments = s.moments ∧ t.pending = s.pending

/-- The current item of a batch run targets station `a` (R131). -/
def State.ItemAt (a : StAddr) (l : BatchList) (r : BatchRun) (c : CurrentItem) (s : State) : Prop :=
  s.batch.state = .running l r ∧ r.current = some c ∧ (l.item c.index).map TxnRequest.station = some a

/-! ### Validation of a draft (R35 to R37) -/

/-- The draft gives slot `k` to an open pair (R35). -/
def Draft.PairUses (k : Nat) (d : Draft) : Prop := ∃ p ∈ d.pairs, k = p ∨ k = p + 1

/-- The draft gives slot `k` to a circuit (R35). -/
def Draft.CircuitUses (k : Nat) (d : Draft) : Prop := ∃ id c, d.circuits.get id = some c ∧ k ∈ c.slots

/-- Slot `k` is shared by two circuits of the draft whose phases are equal modulo the smaller of their divisors (R37). -/
def Draft.Collides (k : Nat) (d : Draft) : Prop :=
  ∃ id id' c c', id ≠ id' ∧ d.circuits.get id = some c ∧ d.circuits.get id' = some c' ∧ k ∈ c.slots ∧ k ∈ c'.slots ∧
    c.phase % min c.divisor c'.divisor = c'.phase % min c.divisor c'.divisor

/-- `k` is the lowest slot with a property. -/
def Lowest (p : Nat → Prop) (k : Nat) : Prop := p k ∧ ∀ j < k, ¬ p j

/-! ### Items as BATCH_LOAD carries them (R119, R167) -/

/-- The bytes of one item: station, action, object index, data length, and as many data bytes as the length says (R167). -/
def CarriesItem (item : List Byte) : Prop :=
  ∃ st ac hi lo n data, item = st :: ac :: hi :: lo :: n :: data ∧ data.length = BitVec.toNat n

/-- The tests of an item's five fields in their order; its data field has no test of its own (R119, R167). -/
def itemTests (item : List Byte) : List Bool :=
  let st := (item.getD 0 0).toNat
  let action := item.getD 1 0
  let object := (item.getD 2 0).toNat * 256 + (item.getD 3 0).toNat
  let n := (item.getD 4 0).toNat
  [decide (1 ≤ st ∧ st ≤ 30), decide (action = 1 ∨ action = 2 ∨ action = 3), decide (object ≤ 4095),
    decide (if action = 1 then n = 0 else 1 ≤ n ∧ n ≤ 4), true]

/-! ### Slots (R14, R25, R27) -/

/-- The place where slot `k` opens next: slot 0 after the marker, every other slot after the one before it has closed
(R14). -/
def State.OpensNext (k : Nat) (s : State) : Prop :=
  s.Open ∧ s.port.trunk.framesRun = true ∧
    ((∃ adopting, s.port.pos = .marker adopting ∧ k = 0) ∨ ∃ j, s.port.pos = .slotClosed j ∧ k = j + 1 ∧ k < s.cfg.slots)

/-- Slot `k` is open with a mode. -/
def State.HasOpen (k : Nat) (mode : SlotMode) (s : State) : Prop :=
  s.Open ∧ s.port.trunk.framesRun = true ∧ s.port.pos = .slotOpen k mode

/-- Slot `k` belongs to no open pair (R25, R27). -/
def LiveSchedule.NoPair (k : Nat) (l : LiveSchedule) : Prop := k ∉ l.pairs ∧ ∀ j ∈ l.pairs, k ≠ j + 1

/-- Slot `k` is slot position `p` of circuit `id`, which is due in frame `f`, and of nothing else (R26, R27). -/
def LiveSchedule.Gives (f : FrameNo) (k : Nat) (id : CircuitId) (c : LiveCircuit) (p : Nat) (l : LiveSchedule) : Prop :=
  l.NoPair k ∧ l.circuits.get id = some c ∧ c.defn.due f = true ∧ c.defn.slots[p]? = some k ∧ c.defn.slots.Nodup ∧
    ∀ id' c', l.circuits.get id' = some c' → c'.defn.due f = true → k ∈ c'.defn.slots → id' = id

/-- The state with slot `k` opened in a mode, `tx` on the line (R13 to R15). -/
def State.opened (k : Nat) (tx : Option (List Byte)) (mode : SlotMode) (s : State) : State :=
  { s with port := { s.port with tx := tx, hit := false, pos := .slotOpen k mode } }

/-- The state with slot `k` closed: the line released; after the frame's last slot no frame is in progress (R10, R15). -/
def State.closed (k : Nat) (s : State) : State :=
  { s with port := { s.port with
    tx := none, hit := false, pos := if k + 1 < s.cfg.slots then .slotClosed k else .idle } }

/-! ### Who gets an open pair (R77 to R79, R95, R100, R124) -/

/-- A roll-call candidate: ABSENT or LOST (R77). -/
def RollDue (e : StationEntry) : Prop := e.state = .absent ∨ e.state = .lost

/-- A presence-check candidate: ACTIVE or FAULTY and not heard for 64 frames (R77). -/
def PresenceDue (e : StationEntry) : Prop := (e.state = .active ∨ e.state = .faulty) ∧ e.sinceHeard = 64

/-- Address `a` is the first candidate from the cursor's address upward, after 30 going on at 1 (R78). -/
def Roster.FirstFrom (cursor : StAddr) (p : StationEntry → Prop) (a : StAddr) (r : Roster) : Prop :=
  ∃ n < 30, a = cursor + Fin.ofNat 30 n ∧ p (r.entries.get a) ∧
    ∀ m < n, ¬ p (r.entries.get (cursor + Fin.ofNat 30 m))

/-- No entry is a candidate (R79). -/
def Roster.NoneDue (p : StationEntry → Prop) (r : Roster) : Prop := ∀ a, ¬ p (r.entries.get a)

/-- A host record that may be issued: QUEUED to a station that is available and has nothing outstanding, or WAITING and
due (R100). -/
def HostRecord.Ready (s : State) (r : HostRecord) : Prop :=
  (r.attempt.state = .queued ∧ (s.entry r.request.station).state.unavailable = false ∧
    (s.entry r.request.station).marker = none) ∨ (r.attempt.state = .waiting ∧ r.attempt.due = true)

/-- A host record that the examination passes over: ISSUED, WAITING and not due, or QUEUED to an available station that
has a transaction outstanding (R100). -/
def HostRecord.Skipped (s : State) (r : HostRecord) : Prop :=
  r.attempt.state = .issued ∨ (r.attempt.state = .waiting ∧ r.attempt.due = false) ∨
    (r.attempt.state = .queued ∧ (s.entry r.request.station).state.unavailable = false ∧
      (s.entry r.request.station).marker ≠ none)

/-- The batch unit's current item may be issued (R124). -/
def State.BatchReady (l : BatchList) (r : BatchRun) (c : CurrentItem) (it : TxnRequest) (s : State) : Prop :=
  s.batch.state = .running l r ∧ r.waiting = false ∧ r.abort = false ∧ r.current = some c ∧ l.item c.index = some it ∧
    ((c.attempt.state = .queued ∧ (s.entry it.station).marker = none) ∨
      (c.attempt.state = .waiting ∧ c.attempt.due = true))

/-- OPEN slot `k` goes to a requester by the turn marker: the trunk is RUNNING and the roster has no claim on the pair
(R79, R95). -/
def State.ByTurn (k : Nat) (l : LiveSchedule) (s : State) : Prop :=
  s.port.trunk = .running ∧
    (s.port.frameNo.toNat % 16 = 0 → (∀ j ∈ l.pairs, k ≤ j) →
      s.roster.NoneDue RollDue ∧ s.roster.NoneDue PresenceDue)

/-- The fields of a transaction after its issue in frame `f` with token `t` (R103, R126). -/
def Attempt.nowIssued (f : FrameNo) (t : Token) (a : Attempt) : Attempt :=
  ⟨.issued, a.failures, a.deferred, if a.state = .queued then some f else a.firstIssue, some t, none, false⟩

/-- A REQUEST cell (R103). -/
def TxnRequest.cell (t : Token) (r : TxnRequest) : List Byte :=
  cellBytes (packHeader 2 (addrField r.station) t 0)
    ⟨r.action.code, BitVec.ofNat 8 (r.object.toNat / 256), BitVec.ofNat 8 r.object.toNat, BitVec.ofNat 8 r.data.length,
      r.data.getD 0 0, r.data.getD 1 0, r.data.getD 2 0, r.data.getD 3 0⟩

end Sys2Proof.Machine
end

