-- ==== Sys2Proof/Certificates/Slice0/Obligations.lean ====
section
/-! DEFINITION. The statements for the provers, from the numbered rules of the manual. A statement about a row says what
the row answers for every form the rules give it. `s.Takes` and `s.Open` (Safety.lean) say that the RESET pin is high,
that no earlier row has left work owed (log entry 3) and, for `Takes`, that the host link takes the frame (R155). -/

open Sys2Proof Sys2Proof.Machine

/-! ### The block as a whole -/

/-- A step takes the command at the front of the queue and runs it with the queue's rest. On an empty queue the next moment
on the part's lines comes, which changes at most the receiver, the transmission on the trunk, the count of bad cells and
the queue; with no moment to come the block idles. What a step does on an empty queue is the model's choice (log entry
1). -/
def Obligations.StepRunsFrontCommand : Prop :=
  (∀ (c : Instr) (rest : List Instr) (s : State), s.pending = c :: rest →
    step s = exec c { s with pending := rest }) ∧
  (∀ s : State, s.pending = [] → s.moments = [] → step s = .next s) ∧
  ∀ s : State, s.pending = [] → ∃ t, step s = .next t ∧ t.sched = s.sched ∧ t.roster = s.roster ∧
    t.engine = s.engine ∧ t.batch = s.batch ∧ t.delivery = s.delivery ∧ t.draws = s.draws ∧
    t.moments = s.moments.tail ∧ t.link = { s.link with receiver := t.link.receiver } ∧
    t.port = { s.port with tx := t.port.tx, hit := t.port.hit, badCells := t.port.badCells }

/-- Every row answers a next state and leaves the queue of commands alone: no row of this part stops (R20, R156). The
queue is the model's own (log entry 1). -/
def Obligations.EveryRowAnswersNext : Prop :=
  ∀ (c : Instr) (s : State), ∃ t, exec c s = .next t ∧ t.pending = s.pending

/-- After a power-on reset every block holds the values of its reset table (R4, R11, R19, R21 to R23, R72, R94, R118,
R134, R138, R155, R158, R163, R164). The strap levels are the model's choice (log entry 8) and are left out. -/
def Obligations.ResetValues : Prop :=
  State.reset.port.trunk = .off ∧ State.reset.port.config = none ∧ State.reset.port.stopPending = false ∧
  State.reset.port.timer = .disarmed ∧ State.reset.port.frameNo = 0 ∧ State.reset.port.streak = 0 ∧
  State.reset.port.collided = false ∧ State.reset.port.pair = none ∧ State.reset.port.tx = none ∧
  State.reset.port.badCells = 0 ∧ State.reset.port.silentSlots = 0 ∧ State.reset.port.collisions = 0 ∧
  State.reset.sched.live = none ∧ (∀ id, State.reset.sched.draft.circuits.get id = none) ∧
  State.reset.sched.draft.pairs = [] ∧ State.reset.sched.adoptPending = false ∧
  (∀ a, State.reset.entry a = ⟨.absent, 0, 0, none, false, none⟩) ∧
  State.reset.roster.rollCursor.val + 1 = 1 ∧ State.reset.roster.presenceCursor.val + 1 = 1 ∧
  State.reset.engine.queue = [] ∧ (∀ a, State.reset.engine.tokens.get a = 0) ∧ State.reset.engine.turn = .host ∧
  State.reset.engine.strays = 0 ∧ State.reset.batch = ⟨.empty, 0⟩ ∧
  State.reset.delivery = ⟨512, [], 0, false, ⟨0, 0, 0, 0⟩, 0⟩ ∧
  State.reset.link.receiver = .hunting ∧ State.reset.link.replies = [] ∧ State.reset.link.tags = [] ∧
  State.reset.link.boot = some .power ∧ State.reset.link.restartPending = false ∧
  State.reset.link.timeouts = 0 ∧ State.reset.link.crcErrors = 0 ∧ State.reset.link.formatErrors = 0 ∧
  State.reset.link.backlog = 0

/-! ### Laws that every row keeps -/

/-- The laws below hold right after a power-on reset. -/
def Obligations.LawsHoldAtReset : Prop :=
  State.reset.PoolLaw ∧ State.reset.Accounting ∧ State.reset.MarkerLaw ∧ State.reset.QueueLaw ∧
    State.reset.RunStateLaw ∧ State.reset.UnitLaw ∧ State.reset.ScheduleLaw ∧ State.reset.DefinitionsLegal ∧
    State.reset.LinkLaw

/-- The law of the pool: free buffers, buffers of circuits and buffers of DATA records always number 512 (R137). -/
def Obligations.PoolLawKept : Prop :=
  ∀ (c : Instr) (s t : State), s.PoolLaw → exec c s = .next t → t.PoolLaw

/-- Reservations, occupancy, records in progress and tags stay in step: the law of occupancy (R142), the bounds of R116
and the law of tags (R158). -/
def Obligations.AccountingKept : Prop :=
  ∀ (c : Instr) (s t : State), s.Accounting → exec c s = .next t → t.Accounting

/-- The law of the outstanding marker: a station has at most one transaction in progress, host and batch together, and
its marker names it (R73). -/
def Obligations.MarkerLawKept : Prop :=
  ∀ (c : Instr) (s t : State), s.Accounting → s.MarkerLaw → exec c s = .next t → t.MarkerLaw

/-- The law of the queue: an OUT circuit's queue never holds more units than its depth (R56). -/
def Obligations.QueueLawKept : Prop :=
  ∀ (c : Instr) (s t : State), s.QueueLaw → exec c s = .next t → t.QueueLaw

/-- A live circuit is RUNNING exactly when it broadcasts or its station is ACTIVE or FAULTY (R51). -/
def Obligations.RunStateLawKept : Prop :=
  ∀ (c : Instr) (s t : State), s.RunStateLaw → exec c s = .next t → t.RunStateLaw

/-- The law of the circuit: a STALLED circuit has no unit in flight and no assembly (R53, R54). -/
def Obligations.UnitLawKept : Prop :=
  ∀ (c : Instr) (s t : State), s.UnitLaw → exec c s = .next t → t.UnitLaw

/-- A live schedule has passed validation against S, and an adoption is pending only while frames run, with a draft that
has passed too (R3, R34, R38, R41, R42). -/
def Obligations.ScheduleLawKept : Prop :=
  ∀ (c : Instr) (s t : State), s.ScheduleLaw → exec c s = .next t → t.ScheduleLaw

/-- Definitions and open-pair lists, in the draft and live, hold only the legal values of Table 2.1 and R25 (R24, R28,
R31). -/
def Obligations.DefinitionsLegalKept : Prop :=
  ∀ (c : Instr) (s t : State), s.DefinitionsLegal → exec c s = .next t → t.DefinitionsLegal

/-- At most 4 requests are unanswered, and the credit counter stays at 255 or below (R146, R155). -/
def Obligations.LinkLawKept : Prop :=
  ∀ (c : Instr) (s t : State), s.LinkLaw → exec c s = .next t → t.LinkLaw

/-- The law of the schedule: a schedule of legal definitions that passes validation gives each slot at most one use in
any frame, below S (R27, R35 to R38). -/
def Obligations.SlotHasOneUse : Prop :=
  ∀ (d : Draft) (slots : Nat), (∀ id c, d.circuits.get id = some c → c.Legal) → PairsLegal d.pairs →
    d.conflict slots = none → ∀ (f : FrameNo) (k : Nat),
      (∀ id c, d.circuits.get id = some c → c.due f = true → k ∈ c.slots →
        k < slots ∧ k ∉ d.pairs ∧ (∀ j ∈ d.pairs, k ≠ j + 1) ∧
        ∀ id' c', d.circuits.get id' = some c' → c'.due f = true → k ∈ c'.slots → id' = id) ∧
      (k ∈ d.pairs → k + 1 < slots ∧ k + 1 ∉ d.pairs ∧ ∀ j ∈ d.pairs, k ≠ j + 1)

/-- The record list is first in, first out: a row appends at the tail and changes no record that stands there; only a
notice that has been sent whole takes the head (R138, R143, R144), and only a reset empties the list (R149). -/
def Obligations.RecordsStayInOrder : Prop :=
  ∀ (c : Instr) (s t : State), exec c s = .next t →
    (¬ MayReset c → c ≠ .noticeSent → s.delivery.records <+: t.delivery.records) ∧
    (c = .noticeSent → s.delivery.records <+: t.delivery.records ∨ s.delivery.records.tail <+: t.delivery.records)

/-- The law of credits: the counter rises only by CREDIT, falls only by 1 at the start of a notice, and is left alone
by every other row but a reset (R143, R146, R147). -/
def Obligations.CreditsMoveOnlyByCreditAndNotice : Prop :=
  ∀ (c : Instr) (s t : State), s.LinkLaw → exec c s = .next t → ¬ MayReset c →
    (t.delivery.credits < s.delivery.credits →
      c = .noticeTransmit ∧ t.delivery.credits + 1 = s.delivery.credits ∧ ∃ f, t.link.tx = some ⟨.notice, f⟩) ∧
    (s.delivery.credits < t.delivery.credits →
      ∃ tag n, c = .credit tag [n] ∧ t.delivery.credits = min 255 (s.delivery.credits + n.toNat))

/-- The law of the frame number: outside resets it moves only at a frame start, by one modulo 65 536, and at START, which
sets it to 0 (R5, R11). -/
def Obligations.FrameNumberMoves : Prop :=
  ∀ (c : Instr) (s t : State), exec c s = .next t → ¬ MayReset c → t.port.frameNo ≠ s.port.frameNo →
    (c = .frameStart ∧ t.port.frameNo = s.port.frameNo + 1) ∨ (∃ tag, c = .start tag [] ∧ t.port.frameNo = 0)

/-- The counters of the line, of stray answers and of the host link never fall, but at a reset and at a STATUS with its
clear flag set (R21, R94, R161, R164). -/
def Obligations.CountersNeverFall : Prop :=
  ∀ (c : Instr) (s t : State), exec c s = .next t → ¬ MayReset c → (∀ tag, c ≠ .status tag [1]) →
    s.port.badCells.toNat ≤ t.port.badCells.toNat ∧ s.port.silentSlots.toNat ≤ t.port.silentSlots.toNat ∧
    s.port.collisions.toNat ≤ t.port.collisions.toNat ∧ s.engine.strays.toNat ≤ t.engine.strays.toNat ∧
    s.link.timeouts.toNat ≤ t.link.timeouts.toNat ∧ s.link.crcErrors.toNat ≤ t.link.crcErrors.toNat ∧
    s.link.formatErrors.toNat ≤ t.link.formatErrors.toNat ∧ s.link.backlog.toNat ≤ t.link.backlog.toNat

/-- While RESET is low no row but POWER_ON_RESET and RESET_PIN_RELEASE changes the state. R22 and R164 say that the part
ignores HRX and TRX and drives no line then; that no row at all changes the state is the model's deduction (log entry
11). -/
def Obligations.HeldResetIgnoresRows : Prop :=
  ∀ (c : Instr) (s : State), s.link.pin ≠ .released → (∀ a b d, c ≠ .powerOnReset a b d) →
    (∀ a b, c ≠ .resetPinRelease a b) → exec c s = .next s

/-! ### Frames on the host link -/

/-- The receiver reads the frame of a well-formed request as that very request (R152, R153, R156, R165). -/
def Obligations.RequestFrameDecodes : Prop :=
  ∀ (i : Instr) (frame : List Byte), i.wellFormed = true → requestFrame i = some frame → receiveFrame frame = some i

/-- The fields of a cell header come back from the packed header, for every value (R171). -/
def Obligations.CellHeaderFields : Prop :=
  ∀ (kind : BitVec 4) (addr : BitVec 5) (token : Token) (flags : BitVec 3),
    headerKind (packHeader kind addr token flags) = kind ∧ headerAddr (packHeader kind addr token flags) = addr ∧
    headerToken (packHeader kind addr token flags) = token ∧
    (packHeader kind addr token flags).toNat = kind.toNat * 4096 + addr.toNat * 128 + token.toNat * 8 + flags.toNat

/-- Every request that is taken gets one reply with its own tag, at the tail of the list, and a refused request changes
nothing else (R155, R156, R157). -/
def Obligations.RefusedRequestChangesNothing : Prop :=
  ∀ (i : Instr) (kind tag : Byte) (payload : List Byte) (s : State), i.wellFormed = true →
    requestParts i = some (kind, tag, payload) → s.Takes →
    ∃ t result detail data, exec i s = .next t ∧
      t.link.replies = s.link.replies ++ [⟨tag, result, detail, data⟩] ∧
      (result.success = false → data = [] ∧ t = s.replied tag result detail.toNat [])

/-- With 4 requests unanswered or a restart pending, a good frame of any kind is discarded without reply and counted
(R155, R162). -/
def Obligations.BacklogDiscardsGoodFrames : Prop :=
  ∀ (i : Instr) (s : State), i.wellFormed = true → (requestParts i).isSome = true ∨ i = .backlogDiscard → s.Open →
    (s.link.restartPending = true ∨ 4 ≤ s.link.replies.length) →
    exec i s = .next { s with link.receiver := .hunting, link.backlog := satInc s.link.backlog }

/-- A request of fixed layout with another payload length than Table 9.1 gives is refused with BAD_LENGTH, detail 0, and
the length checks of PUT, SET_OPEN and TRANSACT take the counts that the frame carries at face value; so does BATCH_LOAD,
whose items are walked: refused when the walk needs more bytes than the frame holds, and when more than one byte is left
after the last item (R166, R167). -/
def Obligations.PayloadLengthsChecked : Prop :=
  (∀ (row : Byte → List Byte → Instr) (length : Nat) (tag : Byte) (payload : List Byte) (s : State),
    (row, length) ∈ [(Instr.hello, 0), (.restart, 0), (.start, 0), (.stop, 0), (.adopt, 0), (.revert, 0),
      (.batchAbort, 0), (.status, 1), (.credit, 1), (.configure, 8), (.defineCircuit, 12), (.dropCircuit, 1),
      (.purge, 1), (.readCircuit, 2), (.admitStation, 2), (.excludeStation, 1), (.releaseStation, 1),
      (.queryStation, 1), (.cancel, 1), (.batchPreset, 1), (.batchRun, 1)] →
    s.Takes → payload.length ≠ length → exec (row tag payload) s = .next (s.replied tag .badLength 0 [])) ∧
  (∀ (tag : Byte) (payload : List Byte) (s : State), s.Takes → payload.length < 2 →
    exec (.batchLoad tag payload) s = .next (s.replied tag .badLength 0 [])) ∧
  (∀ (tag policy count : Byte) (items : List (List Byte)) (left : List Byte) (s : State), s.Takes →
    (∀ item ∈ items, CarriesItem item) → 2 + (items.flatten ++ left).length ≤ 252 →
    (items.length = count.toNat ∧ 2 ≤ left.length) ∨
      (items.length < count.toNat ∧ ∀ item more, left = item ++ more → ¬ CarriesItem item) →
    exec (.batchLoad tag (policy :: count :: (items.flatten ++ left))) s = .next (s.replied tag .badLength 0 [])) ∧
  ∀ (tag : Byte) (payload : List Byte) (s : State), s.Takes → payload.length ≤ 252 →
    (payload.length ∉ [9, 17, 25, 33] → exec (.put tag payload) s = .next (s.replied tag .badLength 0 [])) ∧
    ((∀ n rest, payload = n :: rest → rest.length ≠ n.toNat) →
      exec (.setOpen tag payload) s = .next (s.replied tag .badLength 0 [])) ∧
    ((∀ st ac hi lo n rest, payload = st :: ac :: hi :: lo :: n :: rest → rest.length ≠ n.toNat) →
      exec (.transact tag payload) s = .next (s.replied tag .badLength 0 []))

/-- A good frame with no request code is refused with UNKNOWN_KIND; a frame with a wrong CRC, an illegal LEN or a broken
character, and a frame cut off by the timeout, are dropped without reply, each counted in its own counter; a broken
character and a gap outside a frame are not. Character by character, A5h starts a frame, LEN and the CRC end it as such a
row or as the request it carries, and a receiver that hunts discards all else (R151, R153, R154, R156). How characters reach
the part is log entry 1. -/
def Obligations.BadFramesAreCountedOrRefused : Prop :=
  (∀ (kind tag : Byte) (payload : List Byte) (s : State), s.Takes → (Instr.unknownKind kind tag payload).wellFormed = true →
    exec (.unknownKind kind tag payload) s = .next (s.replied tag .unknownKind 0 [])) ∧
  (∀ (body : List Byte) (crc : Half) (s : State), s.Open → (Instr.crcError body crc).wellFormed = true →
    exec (.crcError body crc) s
      = .next { s with link.receiver := .hunting, link.crcErrors := satInc s.link.crcErrors }) ∧
  (∀ (cause : FormatCause) (s : State), s.Open → (Instr.formatError cause).wellFormed = true →
    cause ≠ .character ∨ s.link.receiver ≠ .hunting → exec (.formatError cause) s
      = .next { s with link.receiver := .hunting, link.formatErrors := satInc s.link.formatErrors }) ∧
  (∀ s : State, s.Open → s.link.receiver ≠ .hunting →
    exec .interByteTimeout s = .next { s with link.receiver := .hunting, link.timeouts := satInc s.link.timeouts }) ∧
  (∀ s : State, s.Open → s.link.receiver = .hunting →
    exec (.formatError .character) s = .next s ∧ exec .interByteTimeout s = .next s) ∧
  (∀ (kind tag : Byte) (payload : List Byte) (crc : Half), payload.length ≤ 252 →
    crc ≠ crc16 (frameBody kind tag payload) →
    receiveFrame (0xA5 :: (frameBody kind tag payload ++ halfBytes crc)) = some (.crcError (kind :: tag :: payload) crc)) ∧
  (∀ b : Byte, (charBits b).getLsbD 0 = false ∧ (charBits b).getLsbD 9 = true ∧
    ∀ i < 8, (charBits b).getLsbD (i + 1) = b.getLsbD i) ∧
  ∀ (s : State) (rest : List Moment), s.held = false → s.pending = [] →
    (∀ b, s.moments = .hrxChar (charBits b) :: rest →
      (s.link.receiver = .hunting → step s = .next { s with
        moments := rest, link.receiver := if b = 0xA5 then .inFrame [] else .hunting }) ∧
      ∀ gathered, s.link.receiver = .inFrame gathered →
        let taken : List Instr → Host.Outcome State Fault Refusal := fun rows => .next { s with
          moments := rest, link.receiver := .inFrame (gathered ++ [b]), pending := rows }
        (gathered = [] → b.toNat < 2 ∨ b = 255 → step s = taken [.formatError (.illegalLen b)]) ∧
        (gathered = [] → 2 ≤ b.toNat → b ≠ 255 → step s = taken []) ∧
        ∀ len after, gathered = len :: after → 2 ≤ len.toNat → len ≠ 255 →
          (after.length ≤ len.toNat → step s = taken []) ∧
          ∀ kind tag payload hi, after = kind :: tag :: (payload ++ [hi]) → payload.length + 2 = len.toNat →
            step s = taken [if crc16 (len :: kind :: tag :: payload) = hi ++ b then requestOfKind kind tag payload
              else .crcError (kind :: tag :: payload) (hi ++ b)]) ∧
    (∀ c : BitVec 10, c.getLsbD 0 = false → c.getLsbD 9 = false → s.moments = .hrxChar c :: rest →
      step s = .next { s with
        moments := rest, pending := if s.link.receiver = .hunting then [] else [.formatError .character] }) ∧
    (s.moments = .hrxGap :: rest → step s = .next { s with
      moments := rest, pending := if s.link.receiver = .hunting then [] else [.interByteTimeout] })

/-! ### HELLO, STATUS, CREDIT, RESTART -/

/-- HELLO changes nothing and answers the identity and the capacities (R160). -/
def Obligations.HelloAnswers : Prop :=
  ∀ (tag : Byte) (s : State), s.Takes →
    exec (.hello tag []) s = .next (s.replied tag .ok 0
      [0x7A, 0x31, 0x41, 0x20, 0x02, 32, 30, 16, 64, 0x02, 0x00, 128, 24, 15])

/-- STATUS reports the state as it stands, then clears the four line counters and the four host-link counters if its
flag is 1, and nothing else; trunk and batch states are coded as in Table 9.3 (R161). -/
def Obligations.StatusReportsThenClears : Prop :=
  [TrunkState.off, .ready, .starting, .running, .halted].map TrunkState.code = [0, 1, 2, 3, 4] ∧
  (∀ l r, [BatchState.empty, .loaded l, .running l r].map BatchState.code = [0, 1, 2]) ∧
  ∀ (tag flag : Byte) (s : State), s.Takes →
    exec (.status tag [flag]) s = .next (
      if flag ≠ 0 ∧ flag ≠ 1 then s.replied tag .badField 1 []
      else
        (if flag = 1 then
          { s with
            port.badCells := 0, port.silentSlots := 0, port.collisions := 0, engine.strays := 0, link.timeouts := 0
            link.crcErrors := 0, link.formatErrors := 0, link.backlog := 0 }
         else s).replied tag .ok 0
          ([s.port.trunk.code] ++ halfBytes s.port.frameNo ++
            [BitVec.ofNat 8 s.port.streak, if s.sched.adoptPending then 1 else 0,
              BitVec.ofNat 8 (s.roster.rollCursor.val + 1), BitVec.ofNat 8 (s.roster.presenceCursor.val + 1)] ++
            halfBytes (BitVec.ofNat 16 s.delivery.free) ++
            [BitVec.ofNat 8 s.delivery.records.length,
              BitVec.ofNat 8 (s.delivery.hostRes + if s.delivery.batchRes then 1 else 0),
              BitVec.ofNat 8 s.delivery.credits] ++
            halfBytes s.delivery.folded.station ++ halfBytes s.delivery.folded.trunk ++
            halfBytes s.delivery.folded.schedule ++ halfBytes s.delivery.folded.loss ++
            [BitVec.ofNat 8 s.engine.queue.length, s.batch.state.code, BitVec.ofNat 8 s.link.tags.length,
              BitVec.ofNat 8 (s.link.replies.length + 1)] ++
            halfBytes s.port.badCells ++ halfBytes s.port.silentSlots ++ halfBytes s.port.collisions ++
            halfBytes s.engine.strays ++ halfBytes s.link.timeouts ++ halfBytes s.link.crcErrors ++
            halfBytes s.link.formatErrors ++ halfBytes s.link.backlog))

/-- CREDIT adds its count to the credit counter, which stays at 255; a count of 0 is refused (R146). -/
def Obligations.CreditAddsSaturating : Prop :=
  ∀ (tag n : Byte) (s : State), s.Takes →
    exec (.credit tag [n]) s = .next (
      if n = 0 then s.replied tag .badField 1 []
      else { s with delivery.credits := min 255 (s.delivery.credits + n.toNat) }.replied tag .ok
        (min 255 (s.delivery.credits + n.toNat)) [])

/-- RESTART is answered OK and marks a restart as pending; when its reply, the last one, has been sent whole, every block
returns to its reset values, with BOOT pending for cause SOFT, the rate and the host-link counters kept (R162, R164).
That the model's own fields stay is its choice (log entry 19). -/
def Obligations.RestartThenSoftReset : Prop :=
  (∀ (tag : Byte) (s : State), s.Takes →
    exec (.restart tag []) s = .next ({ s with link.restartPending := true }.replied tag .ok 0 [])) ∧
  ∀ (f : List Byte) (r : Reply) (s : State), s.Open → s.link.tx = some ⟨.reply, f⟩ → s.link.replies = [r] →
    s.link.restartPending = true →
    exec .replySent s = .next { State.reset with
      link.rate := s.link.rate, link.boot := some .soft, link.timeouts := s.link.timeouts
      link.crcErrors := s.link.crcErrors, link.formatErrors := s.link.formatErrors, link.backlog := s.link.backlog
      draws := s.draws, moments := s.moments, pending := s.pending }

/-! ### CONFIGURE, START, STOP -/

/-- CONFIGURE with legal fields, by the trunk state: the record is created in OFF and replaced in READY, unless the live
schedule uses a slot at or above the new S, of which the lowest is named (R1, R3). -/
def Obligations.ConfigureInstallsRecord : Prop :=
  ∀ (tag code slots hi lo miss loss retry window : Byte) (rate : BitRate) (bits : Nat) (s : State), s.Takes →
    (code.toNat, rate, bits) ∈ [(1, BitRate.mbit2, 20), (2, .mbit5, 50), (3, .mbit10, 100)] →
    16 ≤ slots.toNat → slots.toNat ≤ 64 → 10 ≤ hi.toNat * 256 + lo.toNat → hi.toNat * 256 + lo.toNat ≤ 2000 →
    32 + 128 * slots.toNat ≤ (hi.toNat * 256 + lo.toNat) * bits → 1 ≤ miss.toNat → miss.toNat ≤ 15 →
    miss.toNat < loss.toNat → retry.toNat ≤ 7 → window ≠ 0 →
    let installed := { s with
      port.trunk := .ready
      port.config := some ⟨rate, slots.toNat, hi.toNat * 256 + lo.toNat, miss.toNat, loss.toNat, retry.toNat,
        window.toNat⟩ }
    exec (.configure tag [code, slots, hi, lo, miss, loss, retry, window]) s = .next (
      match s.port.trunk, s.sched.live with
      | .starting, _ => s.replied tag .wrongState 0 []
      | .running, _ => s.replied tag .wrongState 0 []
      | .halted, _ => s.replied tag .wrongState 0 []
      | .off, _ => installed.replied tag .ok 0 []
      | .ready, none => installed.replied tag .ok 0 []
      | .ready, some l =>
        match (List.range 64).find? fun k => decide (slots.toNat ≤ k) && l.uses k with
        | some k => s.replied tag .conflict k []
        | none => installed.replied tag .ok 0 [])

/-- CONFIGURE refuses the first of its seven fields that fails, by its number (R2). -/
def Obligations.ConfigureRefusesFirstBadField : Prop :=
  ∀ (tag code slots hi lo miss loss retry window : Byte) (n : Nat) (s : State), s.Takes →
    [decide (1 ≤ code.toNat ∧ code.toNat ≤ 3), decide (16 ≤ slots.toNat ∧ slots.toNat ≤ 64),
      decide (10 ≤ hi.toNat * 256 + lo.toNat ∧ hi.toNat * 256 + lo.toNat ≤ 2000 ∧
        32 + 128 * slots.toNat ≤ (hi.toNat * 256 + lo.toNat) *
          if code = 1 then 20 else if code = 2 then 50 else 100),
      decide (1 ≤ miss.toNat ∧ miss.toNat ≤ 15), decide (2 ≤ loss.toNat ∧ miss.toNat < loss.toNat),
      decide (retry.toNat ≤ 7), decide (window ≠ 0)].findIdx? (· == false) = some n →
    exec (.configure tag [code, slots, hi, lo, miss, loss, retry, window]) s
      = .next (s.replied tag .badField (n + 1) [])

/-- START in READY with a live schedule zeroes the frame number, clears streak and flag, makes the trunk STARTING, arms
the timer for frame 0 and sets the turn marker to HOST; in every other state it is refused (R5, R94). -/
def Obligations.StartArmsFrameZero : Prop :=
  ∀ (tag : Byte) (s : State), s.Takes →
    exec (.start tag []) s = .next (
      if s.port.trunk = .ready ∧ s.sched.live.isSome = true then
        { s with
          port.frameNo := 0, port.streak := 0, port.collided := false, port.trunk := .starting
          port.timer := .firstFrame, engine.turn := .host }.replied tag .ok 0 []
      else s.replied tag .wrongState 0 [])

/-- STOP by the trunk state: refused in OFF, no change in READY, READY at once from HALTED without a record, and while a
frame is in progress the stop-pending flag is set (R7, R8). -/
def Obligations.StopByTrunkState : Prop :=
  ∀ (tag : Byte) (s : State), s.Takes →
    (s.port.trunk = .off → exec (.stop tag []) s = .next (s.replied tag .wrongState 0 [])) ∧
    (s.port.trunk = .ready → exec (.stop tag []) s = .next (s.replied tag .ok 0 [])) ∧
    (s.port.trunk = .halted → exec (.stop tag []) s = .next ({ s with port.trunk := .ready }.replied tag .ok 0 [])) ∧
    (s.port.trunk.framesRun = true → s.port.pos ≠ .idle →
      exec (.stop tag []) s = .next ({ s with port.stopPending := true }.replied tag .ok 0 []))

/-- Frames stopping by STOP, whether a STOP with no frame in progress, which is answered OK, or the completion of a pending
one: the port stops, every FAULTY station becomes ACTIVE with counts 0 and markers clear, every host record completes
TRUNK_STOPPED in acceptance order, a pass in progress ends the run with its final PASS record, a waiting one has its end
decided, a pending adoption is carried out with a SCHEDULE record, and a TRUNK record is offered (R7, R9, R42, R48, R69,
R91, R114, R132, R148). The order among the other records is free (log entry 4). -/
def Obligations.FramesStopByStop : Prop :=
  ∀ (c : Instr) (s : State), s.Accounting → s.MarkerLaw → s.port.trunk.framesRun = true →
    (s.Takes ∧ s.port.pos = .idle ∧ (∃ tag, c = .stop tag []) ∨ s.held = false ∧ s.owesStop = true ∧ c = .stopComplete) →
    ∃ t, exec c s = .next t ∧
      t.port = { s.port with
        trunk := .ready, stopPending := false, timer := .disarmed, hit := false, pos := .idle, tx := none, pair := none } ∧
      (∀ a, t.entry a = { s.entry a with
        state := if (s.entry a).state = .faulty then .active else (s.entry a).state
        missCount := 0, sinceHeard := 0, marker := none }) ∧
      t.roster.rollCursor = s.roster.rollCursor ∧ t.roster.presenceCursor = s.roster.presenceCursor ∧
      t.engine = { s.engine with queue := [] } ∧
      t.sched.draft = s.sched.draft ∧ t.sched.adoptPending = false ∧
      (s.sched.adoptPending = false → t.sched.live = s.sched.live) ∧
      t.delivery.free + t.circuitsHeld = s.delivery.free + s.circuitsHeld ∧
      t.delivery.credits = s.delivery.credits ∧
      t.batch.preset = s.batch.preset ∧
      (match s.batch.state with
        | .empty => t.batch.state = .empty
        | .loaded l => t.batch.state = .loaded l
        | .running l r =>
          if r.waiting then
            t.batch.state = .running l { r with decided := some (r.decided.getD .trunkStopped) }
          else t.batch.state = .loaded l) ∧
      (∃ new closed, t.delivery.records = s.delivery.records ++ new ∧
        (s.sched.adoptPending = true →
          AdoptsTo (fun id => s.circuit id) s.roster.entries s.sched.draft t closed) ∧
        StopRecords s.delivery (s.engine.queue.map fun r => .done r.tag .trunkStopped 0 [])
          (s.batch.state.finalPass .trunkStopped .trunkStopped)
          (.event (.trunk .ready s.port.frameNo none) ::
            if s.sched.adoptPending then [.event (.schedule s.port.frameNo closed)] else [])
          new t.delivery.folded) ∧
      t.link.tags.Perm t.batch.state.tags ∧ t.delivery.hostRes = 0 ∧
      (c = .stopComplete → t.link = { s.link with tags := t.link.tags }) ∧
      ∀ tag, c = .stop tag [] → t.link = { s.link with
        tags := t.link.tags, receiver := .hunting, replies := s.link.replies ++ [⟨tag, .ok, 0, []⟩] }

/-! ### The draft and its adoption -/

/-- DEFINE_CIRCUIT with legal fields stores exactly the definition it carries, slot entries beyond the slot count left
out, detail 1 where it replaced one; it is refused with BUSY while an adoption is pending, and with BAD_FIELD and the number
of its first field that fails. A definition reads back byte for byte as the request that made it, unused slot entries as 0
(R28, R29, R68, R169). -/
def Obligations.DefineCircuitStores : Prop :=
  (∀ (tag divisor phase e1 e2 e3 e4 : Byte) (id : CircuitId) (c : CircuitDef) (s : State), s.Takes → c.Legal →
    divisor.toNat = c.divisor → phase.toNat = c.phase →
    c.slots = ([e1, e2, e3, e4].take c.slots.length).map BitVec.toNat →
    let payload := [BitVec.ofNat 8 id.val, if c.isOut then 1 else 2, c.ends.stationByte, divisor, phase,
      BitVec.ofNat 8 c.slots.length, e1, e2, e3, e4, BitVec.ofNat 8 c.depth, if c.filterOn then 1 else 0]
    exec (.defineCircuit tag payload) s = .next (
      if s.sched.adoptPending then s.replied tag .busy 0 []
      else { s with sched.draft.circuits := s.sched.draft.circuits.set id (some c) }.replied tag .ok
        (if (s.sched.draft.circuits.get id).isSome then 1 else 0) [])) ∧
  (∀ (tag id dir st divisor phase n e1 e2 e3 e4 depth filter : Byte) (k : Nat) (s : State), s.Takes →
    [decide (id.toNat ≤ 31), decide (dir = 1 ∨ dir = 2),
      decide (1 ≤ st.toNat ∧ st.toNat ≤ 31 ∧ (st = 31 → dir = 1)),
      decide (divisor = 1 ∨ divisor = 2 ∨ divisor = 4 ∨ divisor = 8 ∨ divisor = 16),
      decide (phase.toNat < divisor.toNat), decide (1 ≤ n.toNat ∧ n.toNat ≤ 4),
      decide (e1.toNat ≤ 63), decide (2 ≤ n.toNat → e2.toNat ≤ 63 ∧ e1.toNat < e2.toNat),
      decide (3 ≤ n.toNat → e3.toNat ≤ 63 ∧ e2.toNat < e3.toNat),
      decide (4 ≤ n.toNat → e4.toNat ≤ 63 ∧ e3.toNat < e4.toNat),
      decide (if dir = 1 then 1 ≤ depth.toNat ∧ depth.toNat ≤ 8 else depth = 0),
      decide (if dir = 1 then filter = 0 else filter.toNat ≤ 1)].findIdx? (· == false) = some k →
    exec (.defineCircuit tag [id, dir, st, divisor, phase, n, e1, e2, e3, e4, depth, filter]) s
      = .next (s.replied tag .badField (k + 1) [])) ∧
  ∀ payload : List Byte, payload.length = 12 → defineFault payload = none →
    definitionBytes (Fin.ofNat 32 (payload.getD 0 0).toNat) (defineDef payload)
      = (List.range 12).map fun i =>
        if 6 + (payload.getD 5 0).toNat ≤ i ∧ i < 10 then 0 else payload.getD i 0

/-- DROP_CIRCUIT, SET_OPEN with a legal list, and REVERT edit the draft alone, and are refused with BUSY while an adoption
is pending; SET_OPEN is refused with the number of its first field that fails: the count 1 to 16, or an entry 0 to 62 at
least 2 greater than the one before it (R30 to R33). -/
def Obligations.DraftEdits : Prop :=
  (∀ (tag id : Byte) (s : State), s.Takes →
    exec (.dropCircuit tag [id]) s = .next (
      if 31 < id.toNat then s.replied tag .badField 1 []
      else if s.sched.adoptPending then s.replied tag .busy 0 []
      else if (s.sched.draft.circuits.get (Fin.ofNat 32 id.toNat)).isNone then s.replied tag .notFound 0 []
      else { s with
        sched.draft.circuits := s.sched.draft.circuits.set (Fin.ofNat 32 id.toNat) none }.replied tag .ok 0 [])) ∧
  (∀ (tag : Byte) (entries : List Byte) (s : State), s.Takes → entries ≠ [] →
    PairsLegal (entries.map BitVec.toNat) →
    exec (.setOpen tag (BitVec.ofNat 8 entries.length :: entries)) s = .next (
      if s.sched.adoptPending then s.replied tag .busy 0 []
      else { s with sched.draft.pairs := entries.map BitVec.toNat }.replied tag .ok 0 [])) ∧
  (∀ (tag count : Byte) (entries : List Byte) (k : Nat) (s : State), s.Takes → entries.length = count.toNat →
    entries.length ≤ 251 →
    (decide (1 ≤ count.toNat ∧ count.toNat ≤ 16) :: (List.range entries.length).map fun i =>
      decide ((entries.getD i 0).toNat ≤ 62 ∧
        (0 < i → (entries.getD (i - 1) 0).toNat + 2 ≤ (entries.getD i 0).toNat))).findIdx? (· == false) = some k →
    exec (.setOpen tag (count :: entries)) s = .next (s.replied tag .badField (k + 1) [])) ∧
  ∀ (tag : Byte) (s : State), s.Takes →
    exec (.revert tag []) s = .next (
      if s.sched.adoptPending then s.replied tag .busy 0 []
      else { s with
        sched.draft.circuits := s.liveTable.map (Option.map LiveCircuit.defn)
        sched.draft.pairs := (s.sched.live.map LiveSchedule.pairs).getD [] }.replied tag .ok 0 [])

/-- ADOPT by the trunk state: refused in OFF and while an adoption is pending, refused with CONFLICT and the detail of the
first check that the draft fails, accepted as pending while frames run. The checks in their order: no open pair, detail
FFh; then the lowest slot used at or above S; then the lowest slot of a circuit within an open pair; then the lowest slot
shared by two circuits with phases equal modulo the smaller divisor (R34 to R37, R41). -/
def Obligations.AdoptChecksAndPends : Prop :=
  ∀ (tag : Byte) (s : State), s.Takes →
    (s.port.trunk = .off → exec (.adopt tag []) s = .next (s.replied tag .wrongState 0 [])) ∧
    (s.port.trunk ≠ .off → s.sched.adoptPending = true → exec (.adopt tag []) s = .next (s.replied tag .busy 0 [])) ∧
    (s.port.trunk ≠ .off → s.sched.adoptPending = false → ∀ detail, s.sched.draft.conflict s.cfg.slots = some detail →
      exec (.adopt tag []) s = .next (s.replied tag .conflict detail [])) ∧
    (s.port.trunk.framesRun = true → s.sched.adoptPending = false → s.sched.draft.conflict s.cfg.slots = none →
      exec (.adopt tag []) s = .next ({ s with sched.adoptPending := true }.replied tag .accepted 0 [])) ∧
    (s.port.trunk ≠ .off → s.sched.adoptPending = false → s.DefinitionsLegal →
      let d := s.sched.draft
      let refused := fun detail : Nat => exec (.adopt tag []) s = .next (s.replied tag .conflict detail [])
      let outside := fun k => s.cfg.slots ≤ k ∧ (d.PairUses k ∨ d.CircuitUses k)
      let overlap := fun k => d.PairUses k ∧ d.CircuitUses k
      (d.pairs = [] → refused 0xFF) ∧
      (d.pairs ≠ [] → (∀ k, Lowest outside k → refused k) ∧
        ((∀ k, ¬ outside k) → (∀ k, Lowest overlap k → refused k) ∧
          ((∀ k, ¬ overlap k) → ∀ k, Lowest (fun k => d.Collides k) k → refused k))))

/-- ADOPT in READY or HALTED makes the draft live at once: an id is closed, made new, or kept (its queue trimmed to the
new depth, or purged with its copies where its width changed), the buffers let go return to the pool, and the reply
carries the closed ids in ascending order (R40, R44 to R47, R136). -/
def Obligations.AdoptAtOnceTreatsEachId : Prop :=
  ∀ (tag : Byte) (s : State), s.Takes → s.port.trunk = .ready ∨ s.port.trunk = .halted → s.sched.adoptPending = false →
    s.sched.draft.conflict s.cfg.slots = none →
    ∃ (t : State) (closed : List CircuitId), exec (.adopt tag []) s = .next (t.replied tag .ok 0
        (BitVec.ofNat 8 closed.length :: closed.map fun id => BitVec.ofNat 8 id.val)) ∧
      Adopted s t closed ∧ t.port = s.port ∧ t.link = s.link ∧
      t.delivery = { s.delivery with free := t.delivery.free }

/-! ### PUT, PURGE, READ_CIRCUIT -/

/-- PUT runs its six checks in order, and one that passes claims w buffers, fills buffer k with data bytes 8k to 8k + 7
and appends the unit at the tail of the queue (R55, R135). -/
def Obligations.PutChecksAndAppends : Prop :=
  ∀ (tag id : Byte) (data : List Byte) (s : State), s.Takes → data.length ∈ [8, 16, 24, 32] →
    exec (.put tag (id :: data)) s = .next (
      if 31 < id.toNat then s.replied tag .badField 1 []
      else match s.circuit (Fin.ofNat 32 id.toNat) with
        | none => s.replied tag .notFound 0 []
        | some c =>
          match c.defn.ends with
          | .inn _ _ => s.replied tag .badField 1 []
          | .out _ depth =>
            if data.length ≠ 8 * c.defn.slots.length then s.replied tag .badField 2 []
            else if depth ≤ c.run.queue.length then s.replied tag .queueFull 0 []
            else if s.delivery.free < c.defn.slots.length + 64 then s.replied tag .poolLow 0 []
            else
              ({ s with delivery.free := s.delivery.free - c.defn.slots.length }.setCircuit (Fin.ofNat 32 id.toNat)
                { c with run.queue := c.run.queue ++ [(List.range c.defn.slots.length).map (Buf.ofData data)] }).replied
                tag .ok (c.run.queue.length + 1) [])

/-- PURGE empties the queue of a live OUT circuit and returns its buffers; READ_CIRCUIT reports both definitions, run
state, queue length, flag and counters, then clears the loss-reported flag and, if asked, the counters (R57, R68). -/
def Obligations.PurgeAndReadCircuit : Prop :=
  (∀ (tag id : Byte) (s : State), s.Takes →
    exec (.purge tag [id]) s = .next (
      if 31 < id.toNat then s.replied tag .badField 1 []
      else match s.circuit (Fin.ofNat 32 id.toNat) with
        | none => s.replied tag .notFound 0 []
        | some c =>
          if c.defn.isOut then
            ({ s with delivery.free := s.delivery.free + (c.run.queue.map List.length).sum }.setCircuit
              (Fin.ofNat 32 id.toNat) { c with run.queue := [] }).replied tag .ok c.run.queue.length []
          else s.replied tag .badField 1 [])) ∧
  ∀ (tag idByte flag : Byte) (s : State), s.Takes →
    exec (.readCircuit tag [idByte, flag]) s = .next (
      if 31 < idByte.toNat then s.replied tag .badField 1 []
      else if flag ≠ 0 ∧ flag ≠ 1 then s.replied tag .badField 2 []
      else
        let id : CircuitId := Fin.ofNat 32 idByte.toNat
        match s.sched.draft.circuits.get id, s.circuit id with
        | none, none => s.replied tag .notFound 0 []
        | some d, none => s.replied tag .ok 0 (1 :: (definitionBytes id d ++ List.replicate 28 0))
        | draft, some c =>
          (s.setCircuit id { c with
            run.lossReported := false
            run.counters := if flag = 1 then ⟨0, 0, 0, 0, 0, 0⟩ else c.run.counters }).replied tag .ok 0
            ((match draft with
              | none => List.replicate 13 0
              | some d => 1 :: definitionBytes id d) ++ 1 :: definitionBytes id c.defn ++
              [match c.run.runState with
                | .running => 1
                | .stalled => 2, BitVec.ofNat 8 c.run.queue.length, if c.run.lossReported then 1 else 0] ++
              halfBytes c.run.counters.sent ++ halfBytes c.run.counters.holds ++
              halfBytes c.run.counters.underruns ++ halfBytes c.run.counters.delivered ++
              halfBytes c.run.counters.suppressed ++ halfBytes c.run.counters.dropped))

/-! ### The roster's requests -/

/-- ADMIT by the station's state: a FOUND station becomes ACTIVE and its circuits RUNNING with no last-delivered copy; an
admitted one takes the auto-rejoin value; any other is refused (R52, R85, R86). -/
def Obligations.AdmitByStationState : Prop :=
  ∀ (tag addr rejoin : Byte) (s : State), s.Takes →
    (addr = 0 ∨ 30 < addr.toNat → exec (.admitStation tag [addr, rejoin]) s = .next (s.replied tag .badField 1 [])) ∧
    ∀ a : StAddr, addr.toNat = a.val + 1 →
      (1 < rejoin.toNat → exec (.admitStation tag [addr, rejoin]) s = .next (s.replied tag .badField 2 [])) ∧
      (rejoin.toNat ≤ 1 → (s.entry a).state = .absent ∨ (s.entry a).state = .lost ∨ (s.entry a).state = .excluded →
        exec (.admitStation tag [addr, rejoin]) s = .next (s.replied tag .wrongState 0 [])) ∧
      (rejoin.toNat ≤ 1 → (s.entry a).state = .active ∨ (s.entry a).state = .faulty →
        exec (.admitStation tag [addr, rejoin]) s = .next
          ((s.setEntry a { s.entry a with autoRejoin := rejoin == 1 }).replied tag .ok 0 [])) ∧
      (rejoin.toNat ≤ 1 → (s.entry a).state = .found →
        ∃ t : State, exec (.admitStation tag [addr, rejoin]) s = .next (t.replied tag .ok 0 []) ∧
          t.roster = (s.setEntry a { s.entry a with
            state := .active, autoRejoin := rejoin == 1, missCount := 0, sinceHeard := 0 }).roster ∧
          (∀ id, t.circuit id = (s.circuit id).map fun c =>
            if c.defn.station? = some a ∧ c.run.runState = .stalled then
              { c with run.runState := .running, run.lastDelivered := none } else c) ∧
          t.port = s.port ∧ t.engine = s.engine ∧ t.batch = s.batch ∧ t.delivery = s.delivery ∧ t.link = s.link ∧
          t.sched.draft = s.sched.draft ∧ t.sched.adoptPending = s.sched.adoptPending)

/-- EXCLUDE, in any state of the station: its circuits stall with their queues kept and their units given up, its host
records complete STATION_EXCLUDED, the one in progress first, then the others in queue order; then a batch item to it that
is current, PENDING, ISSUED or WAITING, ends STATION_EXCLUDED, as the end of any item (BatchItemEnds); the reply counts the
host records (R53, R85, R87, R112, R131). -/
def Obligations.ExcludeCascade : Prop :=
  ∀ (tag addr : Byte) (s : State), s.Takes →
    (addr = 0 ∨ 30 < addr.toNat → exec (.excludeStation tag [addr]) s = .next (s.replied tag .badField 1 [])) ∧
    ∀ a : StAddr, addr.toNat = a.val + 1 → s.Accounting → s.MarkerLaw →
      ∃ u t : State, exec (.excludeStation tag [addr]) s = .next (t.replied tag .ok (s.goneRecords a).length []) ∧
        StationGone s a { s.entry a with state := .excluded } .stationExcluded u ∧
        ((∀ l r c, ¬ s.ItemAt a l r c) → t = u) ∧
        ∀ l r c, s.ItemAt a l r c → t = u.endItem l r c ⟨.stationExcluded, []⟩

/-- RELEASE makes an EXCLUDED entry ABSENT and clears it, its marker kept, and is refused in any other state; QUERY_STATION
reports the entry and changes nothing, station states coded as in Table 9.5 (R85, R88, R89). -/
def Obligations.ReleaseAndQuery : Prop :=
  [StationState.absent, .found, .active, .faulty, .lost, .excluded].map StationState.code = [0, 1, 2, 3, 4, 5] ∧
  ∀ (tag addr : Byte) (s : State), s.Takes →
    (addr = 0 ∨ 30 < addr.toNat →
      exec (.releaseStation tag [addr]) s = .next (s.replied tag .badField 1 []) ∧
      exec (.queryStation tag [addr]) s = .next (s.replied tag .badField 1 [])) ∧
    ∀ a : StAddr, addr.toNat = a.val + 1 →
      exec (.releaseStation tag [addr]) s = .next (
        if (s.entry a).state = .excluded then
          (s.setEntry a ⟨.absent, 0, 0, none, false, (s.entry a).marker⟩).replied tag .ok 0 []
        else s.replied tag .wrongState 0 []) ∧
      exec (.queryStation tag [addr]) s = .next (s.replied tag .ok 0
        ([(s.entry a).state.code, BitVec.ofNat 8 (s.entry a).missCount, BitVec.ofNat 8 (s.entry a).sinceHeard] ++
          (match (s.entry a).identity with
            | none => List.replicate 9 0
            | some i => 1 :: (halfBytes i.class_ ++ [i.revision] ++ wordBytes i.serial ++ [i.profile])) ++
          [if (s.entry a).autoRejoin then 1 else 0] ++
          match (s.entry a).marker with
          | none => [0, 0]
          | some ⟨.host, m⟩ => [1, m]
          | some ⟨.batch, m⟩ => [2, m]))

/-! ### TRANSACT and CANCEL -/

/-- TRANSACT runs its checks in their order, and one that passes them all reserves an entry, holds its tag and appends a
QUEUED record at the tail, in one step (R98). -/
def Obligations.TransactChecksAndAccepts : Prop :=
  ∀ (tag st act hi lo len : Byte) (data : List Byte) (s : State), s.Takes → data.length = len.toNat →
    data.length ≤ 247 →
    exec (.transact tag (st :: act :: hi :: lo :: len :: data)) s = .next (
      if st = 0 ∨ 30 < st.toNat then s.replied tag .badField 1 []
      else if act ≠ 1 ∧ act ≠ 2 ∧ act ≠ 3 then s.replied tag .badField 2 []
      else if 4095 < hi.toNat * 256 + lo.toNat then s.replied tag .badField 3 []
      else if (act = 1 ∧ len ≠ 0) ∨ (act ≠ 1 ∧ (len = 0 ∨ 4 < len.toNat)) then s.replied tag .badField 4 []
      else if s.port.trunk = .off ∨ s.port.trunk = .halted then s.replied tag .wrongState 0 []
      else if tag ∈ s.link.tags then s.replied tag .tagBusy 0 []
      else if 24 ≤ s.engine.queue.length then s.replied tag .queueFull 0 []
      else if 128 ≤ s.delivery.occupancy then s.replied tag .noRoom 0 []
      else
        ({ s with
          delivery.hostRes := s.delivery.hostRes + 1
          link.tags := s.link.tags ++ [tag]
          engine.queue := s.engine.queue ++ [⟨tag,
            ⟨Fin.ofNat 30 (st.toNat - 1), if act = 1 then .fetch else if act = 2 then .store else .swap,
              BitVec.ofNat 12 (hi.toNat * 256 + lo.toNat), data⟩,
            ⟨.queued, 0, false, none, none, none, false⟩⟩] } : State).replied tag .accepted (s.engine.queue.length + 1) [])

/-- CANCEL by the state of the oldest record with the tag: none NOT_FOUND, ISSUED TOO_LATE, QUEUED completes CANCELLED,
WAITING completes CANCELLED_UNCERTAIN and clears the station's marker (R108, R110). -/
def Obligations.CancelByRecordState : Prop :=
  ∀ (tag target : Byte) (s : State), s.Takes →
    ((∀ r ∈ s.engine.queue, r.tag ≠ target) →
      exec (.cancel tag [target]) s = .next (s.replied tag .notFound 0 [])) ∧
    ∀ (before after : List HostRecord) (r : HostRecord), s.engine.queue = before ++ r :: after → r.tag = target →
      (∀ q ∈ before, q.tag ≠ target) →
      exec (.cancel tag [target]) s = .next (
        if r.attempt.state = .issued then s.replied tag .tooLate 0 []
        else
          ({ s with
            engine.queue := before ++ after
            roster := if r.attempt.state = .waiting then
                (s.setEntry r.request.station { s.entry r.request.station with marker := none }).roster
              else s.roster
            delivery.hostRes := s.delivery.hostRes - 1
            delivery.records := s.delivery.records ++
              [.done target (if r.attempt.state = .waiting then .cancelledUncertain else .cancelled) 0 []]
            link.tags := s.link.tags.erase target } : State).replied tag .ok 0 [])

/-! ### The batch unit -/

/-- BATCH_LOAD of a legal list without a run count stores it in EMPTY or LOADED and is refused with BUSY in RUNNING;
with a run count it is checked whole first, and then loads and runs as one step. The first field that fails is refused by
its number: policy 1, item count 2, the five fields of item n from 5n - 2, the run count 5c + 3. BATCH_PRESET sets the
preset (R119 to R121, R167). -/
def Obligations.BatchLoadAndPreset : Prop :=
  (∀ (tag : Byte) (l : BatchList) (s : State), s.Takes → l.Legal →
    exec (.batchLoad tag l.payload) s = .next (match s.batch.state with
      | .running _ _ => s.replied tag .busy 0 []
      | .empty => { s with batch.state := .loaded l }.replied tag .ok l.items.length []
      | .loaded _ => { s with batch.state := .loaded l }.replied tag .ok l.items.length [])) ∧
  (∀ (tag k : Byte) (l : BatchList) (s : State), s.Takes → l.Legal →
    ((127 < k.toNat ∨ k = 0 ∧ s.batch.preset = 0) →
      exec (.batchLoad tag (l.payload ++ [k])) s = .next (s.replied tag .badField (5 * l.items.length + 3) [])) ∧
    (¬ (127 < k.toNat ∨ k = 0 ∧ s.batch.preset = 0) →
      ((∃ l' r, s.batch.state = .running l' r) →
        exec (.batchLoad tag (l.payload ++ [k])) s = .next (s.replied tag .busy 0 [])) ∧
      ((∀ l' r, s.batch.state ≠ .running l' r) →
        (s.port.trunk ≠ .running →
          exec (.batchLoad tag (l.payload ++ [k])) s = .next (s.replied tag .wrongState 0 [])) ∧
        (s.port.trunk = .running → tag ∈ s.link.tags →
          exec (.batchLoad tag (l.payload ++ [k])) s = .next (s.replied tag .tagBusy 0 [])) ∧
        (s.port.trunk = .running → tag ∉ s.link.tags → { s with batch.state := .loaded l }.Takes →
          exec (.batchLoad tag (l.payload ++ [k])) s = exec (.batchRun tag [k]) { s with batch.state := .loaded l })))) ∧
  (∀ (tag policy count : Byte) (items : List (List Byte)) (run : List Byte) (k : Nat) (s : State), s.Takes →
    (∀ item ∈ items, CarriesItem item) → items.length = count.toNat → run.length ≤ 1 →
    2 + (items.flatten ++ run).length ≤ 252 →
    (decide (policy = 0 ∨ policy = 1) :: decide (1 ≤ count.toNat ∧ count.toNat ≤ 15) ::
      (items.flatMap itemTests ++ run.map fun n => decide (n.toNat ≤ 127 ∧ (n = 0 → s.batch.preset ≠ 0)))).findIdx?
        (· == false) = some k →
    exec (.batchLoad tag (policy :: count :: (items.flatten ++ run))) s = .next (s.replied tag .badField (k + 1) [])) ∧
  ∀ (tag n : Byte) (s : State), s.Takes →
    exec (.batchPreset tag [n]) s = .next (
      if 127 < n.toNat then s.replied tag .badField 1 []
      else { s with batch.preset := n.toNat }.replied tag .ok n.toNat [])

/-- BATCH_RUN checks its count, the batch and trunk states and its tag; accepted, it consumes the preset for a count of 0,
holds its tag and starts pass 1: the pass waits if no entry is free; else item 1 becomes current, items to unavailable
stations ending first, which ends the run under STOP and goes on pass after pass under CONTINUE (R120, R122, R123, R125,
R128, R130). -/
def Obligations.BatchRunStartsPassOne : Prop :=
  ∀ (tag k : Byte) (s : State), s.Takes →
    ((127 < k.toNat ∨ k = 0 ∧ s.batch.preset = 0) →
      exec (.batchRun tag [k]) s = .next (s.replied tag .badField 1 [])) ∧
    (¬ (127 < k.toNat ∨ k = 0 ∧ s.batch.preset = 0) →
      ((∀ l, s.batch.state ≠ .loaded l) ∨ s.port.trunk ≠ .running →
        exec (.batchRun tag [k]) s = .next (s.replied tag .wrongState 0 [])) ∧
      ∀ l, s.batch.state = .loaded l → s.port.trunk = .running →
        (tag ∈ s.link.tags → exec (.batchRun tag [k]) s = .next (s.replied tag .tagBusy 0 [])) ∧
        (tag ∉ s.link.tags →
          let count := if k = 0 then s.batch.preset else k.toNat
          let blank : List (Option ItemOutcome) := List.replicate l.items.length none
          let run : BatchRun := ⟨tag, count, 1, none, false, false, none, blank⟩
          let taken := { s with batch.preset := if k = 0 then 0 else s.batch.preset, link.tags := s.link.tags ++ [tag] }
          (128 ≤ s.delivery.occupancy →
            exec (.batchRun tag [k]) s = .next
              ({ taken with batch.state := .running l { run with waiting := true } }.replied tag .accepted count [])) ∧
          (s.delivery.occupancy < 128 → ∀ before it after, l.items = before ++ it :: after →
            (∀ b ∈ before, (s.entry b.station).state.unavailable = true) →
            (s.entry it.station).state.unavailable = false → (l.policy = .continue_ ∨ before = []) →
            exec (.batchRun tag [k]) s = .next (State.replied tag .accepted count [] { taken with
              delivery.batchRes := true
              batch.state := .running l { run with
                current := some ⟨before.length + 1, ⟨.queued, 0, false, none, none, none, false⟩⟩
                outcomes := List.replicate before.length (some ⟨.stationUnavailable, []⟩) ++
                  List.replicate (after.length + 1) none } })) ∧
          (s.delivery.occupancy < 128 → l.policy = .stop → ∀ it rest, l.items = it :: rest →
            (s.entry it.station).state.unavailable = true →
            exec (.batchRun tag [k]) s = .next (State.replied tag .accepted count [] { taken with
              delivery.batchRes := false
              delivery.records := s.delivery.records ++
                [.pass tag 1 true .failedStop (⟨.stationUnavailable, []⟩ :: List.replicate rest.length ⟨.notRun, []⟩)]
              link.tags := s.link.tags })) ∧
          (s.Accounting → l.policy = .continue_ → (∀ it ∈ l.items, (s.entry it.station).state.unavailable = true) →
            let n := min count (128 - s.delivery.occupancy)
            exec (.batchRun tag [k]) s = .next (State.replied tag .accepted count [] { taken with
              delivery.records := s.delivery.records ++ (List.range n).map fun i =>
                .pass tag (i + 1) (i + 1 == count) .complete
                  (List.replicate l.items.length ⟨.stationUnavailable, []⟩)
              link.tags := if n = count then s.link.tags else s.link.tags ++ [tag]
              batch.state := if n = count then .loaded l
                else .running l { run with pass := n + 1, waiting := true } }))))

/-- BATCH_ABORT: refused with no run; an ISSUED item is marked, a WAITING one ends ABORTED and a PENDING one NOT_RUN with
the final PASS record at once, a pass that waits for room has its end decided, and a second abort changes nothing (R128 to
R130). -/
def Obligations.BatchAbortByItem : Prop :=
  ∀ (tag : Byte) (s : State), s.Takes →
    ((∀ l r, s.batch.state ≠ .running l r) → exec (.batchAbort tag []) s = .next (s.replied tag .wrongState 0 [])) ∧
    ∀ l r, s.batch.state = .running l r →
      ((r.abort = true ∨ r.waiting = true ∧ r.decided.isSome = true) →
        exec (.batchAbort tag []) s = .next (s.replied tag .ok 1 [])) ∧
      (r.abort = false → r.waiting = true → r.decided = none →
        exec (.batchAbort tag []) s = .next
          ({ s with batch.state := .running l { r with decided := some .aborted } }.replied tag .ok 1 [])) ∧
      (r.abort = false → r.waiting = false → ∀ c, r.current = some c →
        (c.attempt.state = .issued →
          exec (.batchAbort tag []) s = .next
            ({ s with batch.state := .running l { r with abort := true } }.replied tag .ok 1 [])) ∧
        (c.attempt.state ≠ .issued → ∀ it, l.item c.index = some it →
          let last : ItemOutcome := ⟨if c.attempt.state = .waiting then .aborted else .notRun, []⟩
          exec (.batchAbort tag []) s = .next (State.replied tag .ok 0 [] { s with
            roster := if c.attempt.state = .waiting then
                (s.setEntry it.station { s.entry it.station with marker := none }).roster
              else s.roster
            delivery.batchRes := false
            delivery.records := s.delivery.records ++ [.pass r.tag r.pass true .aborted
              ((r.outcomes.set (c.index - 1) (some last)).map (·.getD ⟨.notRun, []⟩))]
            link.tags := s.link.tags.erase r.tag
            batch.state := .loaded l })))

/-- What follows the end of the current item, whatever row ends it: the station's marker is cleared if the item had been
issued; frames stopping, an abort, a failure under STOP, or an unavailable next item under STOP end the run with a final
PASS record; otherwise the next item to an available station becomes current, those before it ending STATION_UNAVAILABLE;
with none left the pass ends COMPLETE, and the next pass starts unless it was the last: it waits if no entry is free, and
its first items to unavailable stations end as in any pass (R123, R125, R128, R130). -/
def Obligations.BatchItemEnds : Prop :=
  ∀ (l : BatchList) (r : BatchRun) (c : CurrentItem) (it : TxnRequest) (o : ItemOutcome) (s : State),
    l.item c.index = some it → s.delivery.batchRes = true →
    let outcomes := r.outcomes.set (c.index - 1) (some o)
    let cleared : State := { s with
      roster := if c.attempt.state = .queued then s.roster
        else (s.setEntry it.station { s.entry it.station with marker := none }).roster }
    let ended : Bool → EndCause → List (Option ItemOutcome) → State := fun final cause oc => { cleared with
      delivery.batchRes := false
      delivery.records := s.delivery.records ++ [.pass r.tag r.pass final cause (oc.map (·.getD ⟨.notRun, []⟩))] }
    let closing : EndCause → List (Option ItemOutcome) → State := fun cause oc => { ended true cause oc with
      link.tags := s.link.tags.erase r.tag, batch.state := .loaded l }
    let stopped := o.outcome = .trunkStopped ∨ o.outcome = .trunkHalted
    let goesOn := ¬ stopped ∧ r.abort = false ∧ (o.outcome = .done ∨ l.policy = .continue_)
    let left := l.items.drop c.index
    let passed := (List.range left.length).foldl
      (fun oc j => oc.set (c.index + j) (some ⟨.stationUnavailable, []⟩)) outcomes
    (o.outcome = .trunkStopped → s.endItem l r c o = closing .trunkStopped outcomes) ∧
    (o.outcome = .trunkHalted → s.endItem l r c o = closing .trunkHalted outcomes) ∧
    (¬ stopped → r.abort = true → s.endItem l r c o = closing .aborted outcomes) ∧
    (¬ stopped → r.abort = false → o.outcome ≠ .done → l.policy = .stop →
      s.endItem l r c o = closing .failedStop outcomes) ∧
    (goesOn → ∀ before next after, l.items.drop c.index = before ++ next :: after →
      (∀ b ∈ before, (s.entry b.station).state.unavailable = true) →
      (s.entry next.station).state.unavailable = false → (l.policy = .continue_ ∨ before = []) →
      s.endItem l r c o = { cleared with
        batch.state := .running l { r with
          current := some ⟨c.index + before.length + 1, ⟨.queued, 0, false, none, none, none, false⟩⟩
          outcomes := (List.range before.length).foldl
            (fun oc j => oc.set (c.index + j) (some ⟨.stationUnavailable, []⟩)) outcomes } }) ∧
    (goesOn → l.policy = .stop → ∀ next after, l.items.drop c.index = next :: after →
      (s.entry next.station).state.unavailable = true →
      s.endItem l r c o = closing .failedStop (outcomes.set c.index (some ⟨.stationUnavailable, []⟩))) ∧
    ((∀ b ∈ left, (s.entry b.station).state.unavailable = true) → goesOn → l.policy = .continue_ ∨ left = [] →
      (r.passes ≤ r.pass → s.endItem l r c o = closing .complete passed) ∧
      (r.pass < r.passes →
        let blank : List (Option ItemOutcome) := List.replicate l.items.length none
        let done := ended false .complete passed
        (128 ≤ s.delivery.occupancy → s.endItem l r c o = { done with
          batch.state := .running l { r with
            pass := r.pass + 1, waiting := true, current := none, outcomes := blank } }) ∧
        (s.delivery.occupancy < 128 → ∀ before first after, l.items = before ++ first :: after →
          (∀ b ∈ before, (s.entry b.station).state.unavailable = true) →
          (s.entry first.station).state.unavailable = false → (l.policy = .continue_ ∨ before = []) →
          s.endItem l r c o = { done with
            delivery.batchRes := true
            batch.state := .running l { r with
              pass := r.pass + 1, waiting := false
              current := some ⟨before.length + 1, ⟨.queued, 0, false, none, none, none, false⟩⟩
              outcomes := List.replicate before.length (some ⟨.stationUnavailable, []⟩) ++
                List.replicate (after.length + 1) none } }) ∧
        (s.delivery.occupancy < 128 → l.policy = .stop → ∀ first rest, l.items = first :: rest →
          (s.entry first.station).state.unavailable = true →
          s.endItem l r c o = { done with
            delivery.records := done.delivery.records ++ [.pass r.tag (r.pass + 1) true .failedStop
              (⟨.stationUnavailable, []⟩ :: List.replicate rest.length ⟨.notRun, []⟩)]
            link.tags := s.link.tags.erase r.tag, batch.state := .loaded l }) ∧
        (l.policy = .continue_ → (∀ b ∈ l.items, (s.entry b.station).state.unavailable = true) →
          let n := min (r.passes - r.pass) (128 - s.delivery.occupancy)
          let final := decide (r.pass + n = r.passes)
          s.endItem l r c o = { done with
            delivery.records := done.delivery.records ++ (List.range n).map fun i =>
              .pass r.tag (r.pass + 1 + i) (decide (r.pass + 1 + i = r.passes)) .complete
                (List.replicate l.items.length ⟨.stationUnavailable, []⟩)
            link.tags := if final then s.link.tags.erase r.tag else s.link.tags
            batch.state := if final then .loaded l
              else .running l { r with
                pass := r.pass + n + 1, waiting := true, current := none, outcomes := blank } })))

/-- A pass that waits for room takes its reservation in a free place: the run's final PASS record stands there at once
where its end was decided; else the pass begins, items to unavailable stations ending first (R123, R125, R128, R130, R132,
R144). -/
def Obligations.BatchRoomTaken : Prop :=
  ∀ (l : BatchList) (r : BatchRun) (s : State), s.held = false → s.batch.state = .running l r → r.waiting = true →
    s.delivery.occupancy < 128 →
    let closing : EndCause → List ItemOutcome → State := fun cause oc => { s with
      batch.state := .loaded l
      delivery.batchRes := false
      delivery.records := s.delivery.records ++ [.pass r.tag r.pass true cause oc]
      link.tags := s.link.tags.erase r.tag }
    (∀ cause, r.decided = some cause → cause ≠ .complete →
      exec .batchRoomOffer s = .next (closing cause (List.replicate l.items.length ⟨.notRun, []⟩))) ∧
    (r.decided = none → ∀ before it after, l.items = before ++ it :: after →
      (∀ b ∈ before, (s.entry b.station).state.unavailable = true) →
      (s.entry it.station).state.unavailable = false → (l.policy = .continue_ ∨ before = []) →
      exec .batchRoomOffer s = .next { s with
        delivery.batchRes := true
        batch.state := .running l { r with
          waiting := false
          current := some ⟨before.length + 1, ⟨.queued, 0, false, none, none, none, false⟩⟩
          outcomes := List.replicate before.length (some ⟨.stationUnavailable, []⟩) ++
            List.replicate (after.length + 1) none } }) ∧
    (r.decided = none → l.policy = .stop → ∀ it rest, l.items = it :: rest →
      (s.entry it.station).state.unavailable = true →
      exec .batchRoomOffer s = .next
        (closing .failedStop (⟨.stationUnavailable, []⟩ :: List.replicate rest.length ⟨.notRun, []⟩))) ∧
    (r.decided = none → l.policy = .continue_ → (∀ it ∈ l.items, (s.entry it.station).state.unavailable = true) →
      s.delivery.batchRes = false → r.pass ≤ r.passes →
      let n := min (r.passes - r.pass + 1) (128 - s.delivery.occupancy)
      let final := decide (r.pass + n = r.passes + 1)
      exec .batchRoomOffer s = .next { s with
        delivery.records := s.delivery.records ++ (List.range n).map fun i =>
          .pass r.tag (r.pass + i) (decide (r.pass + i = r.passes)) .complete
            (List.replicate l.items.length ⟨.stationUnavailable, []⟩)
        link.tags := if final then s.link.tags.erase r.tag else s.link.tags
        batch.state := if final then .loaded l
          else .running l { r with
            pass := r.pass + n, waiting := true, current := none, outcomes := List.replicate l.items.length none } })

/-! ### Resets -/

/-- A power-on reset and the release of the RESET pin return every block to its reset values, sample the straps and make
BOOT pending with its cause; with the pin low at power-on the reset lasts until the release. RESET driven low stops the
timer, releases both lines and cuts the frames in progress (R22, R151, R163, R164). That the model's own fields stay is its
choice (log entry 19). That RESET driven low keeps every other content until the release is its deduction (log entry 11),
and that a release with the pin high changes nothing its choice (log entry 2). -/
def Obligations.ResetsByPowerAndPin : Prop :=
  (∀ (rate1 rate0 : Bool) (rate : LinkRate) (s : State),
    (rate1, rate0, rate) ∈ [(false, false, LinkRate.baud115200), (false, true, .baud460800), (true, false, .baud1000000),
      (true, true, .baud3000000)] →
    let fresh : State := { State.reset with link.rate := rate, draws := s.draws, moments := s.moments, pending := s.pending }
    exec (.powerOnReset false rate1 rate0) s = .next fresh ∧
    exec (.powerOnReset true rate1 rate0) s = .next { fresh with link.boot := none, link.pin := .heldFromPowerOn } ∧
    (s.link.pin = .held → exec (.resetPinRelease rate1 rate0) s = .next { fresh with link.boot := some .pin }) ∧
    (s.link.pin = .heldFromPowerOn → exec (.resetPinRelease rate1 rate0) s = .next fresh) ∧
    (s.link.pin = .released → exec (.resetPinRelease rate1 rate0) s = .next s)) ∧
  ∀ s : State, s.Open → exec .resetPinAssert s = .next { s with
    port.timer := .disarmed, port.pos := .idle, port.tx := none, port.hit := false, port.pair := none
    link.receiver := .hunting, link.tx := none, link.pin := .held }

/-! ### The transmitter -/

/-- The free transmitter takes BOOT first, then the reply at the head of its list, then, for a credit, the notice of the
head record; a frame on HTX is never interrupted. BOOT sent is no longer pending; a reply sent leaves the list; a notice
sent removes its record, returns a DATA record's buffers, and with folded counts puts an OVERFLOW record in the freed
place. Result codes, notice kinds, payloads and their codes are those of Tables 9.2 and 9.6 (R143 to R145, R157, R159, R163,
R165, R168, R170). -/
def Obligations.TransmitterSequence : Prop :=
  [ResultCode.ok, .accepted, .unknownKind, .badLength, .badField, .wrongState, .busy, .tagBusy, .queueFull, .poolLow,
    .noRoom, .notFound, .tooLate, .conflict].map ResultCode.code
      = [0x00, 0x01, 0x10, 0x11, 0x12, 0x13, 0x14, 0x15, 0x16, 0x17, 0x18, 0x19, 0x1A, 0x1B] ∧
  [SlotStatus.good, .bad, .silent].map SlotStatus.code = [1, 2, 3] ∧
  [TxnOutcome.done, .rejected, .noAnswer, .timedOut, .stationLost, .stationExcluded, .stationUnavailable, .cancelled,
    .cancelledUncertain, .trunkStopped, .trunkHalted, .aborted, .notRun].map TxnOutcome.code
      = [0, 1, 2, 3, 4, 5, 6, 7, 8, 9, 10, 11, 12] ∧
  [EndCause.complete, .failedStop, .aborted, .trunkStopped, .trunkHalted].map EndCause.code = [0, 1, 2, 3, 4] ∧
  [StationEvent.found, .faulty, .recovered, .lost, .rejoined].map StationEvent.code = [1, 2, 3, 4, 5] ∧
  [LossCause.underrun, .noBuffer, .noRoom].map LossCause.code = [1, 2, 3] ∧
  [TrunkState.off, .ready, .starting, .running, .halted].map TrunkState.code = [0, 1, 2, 3, 4] ∧
  (∀ r : DeliveryRecord, (r.kind, r.tag, r.payload) = match r with
    | .data id f status bufs => (0x90, 0x00, BitVec.ofNat 8 id.val :: (halfBytes f ++ [BitVec.ofNat 8 bufs.length] ++
        status.map SlotStatus.code ++ bufs.flatMap Buf.bytes))
    | .done tag o reason bytes => (0x91, tag, o.code :: reason :: BitVec.ofNat 8 bytes.length :: bytes)
    | .pass tag n final cause outcomes => (0x92, tag, BitVec.ofNat 8 n :: (if final then 1 else 0) :: cause.code ::
        BitVec.ofNat 8 outcomes.length ::
          outcomes.flatMap fun o => o.outcome.code :: BitVec.ofNat 8 o.data.length :: o.data)
    | .event (.station a ev replaced f identity) => (0x93, 0x00, BitVec.ofNat 8 (a.val + 1) :: ev.code ::
        (if replaced then 1 else 0) :: (halfBytes f ++ match identity with
          | none => List.replicate 9 0
          | some i => 1 :: (halfBytes i.class_ ++ [i.revision] ++ wordBytes i.serial ++ [i.profile])))
    | .event (.trunk state f fault) => (0x94, 0x00, state.code :: (halfBytes f ++ match fault with
        | none => [0, 0]
        | some .marker => [1, 0xFF]
        | some (.slot k) => [1, BitVec.ofNat 8 k]))
    | .event (.schedule f closed) => (0x95, 0x00, halfBytes f ++ BitVec.ofNat 8 closed.length ::
        closed.map fun id => BitVec.ofNat 8 id.val)
    | .event (.loss id cause f) => (0x96, 0x00, BitVec.ofNat 8 id.val :: cause.code :: halfBytes f)
    | .overflow f => (0x97, 0x00, halfBytes f.station ++ halfBytes f.trunk ++ halfBytes f.schedule ++ halfBytes f.loss)) ∧
  ∀ s : State, s.Open →
    (s.link.tx ≠ none → ∀ c ∈ [Instr.bootTransmit, .replyTransmit, .noticeTransmit], exec c s = .next s) ∧
    (s.link.tx = none → ∀ cause, s.link.boot = some cause →
      exec .bootTransmit s = .next { s with link.tx := some ⟨.boot, frameBytes 0xA0 0x00 [match cause with
        | .power => 1
        | .pin => 2
        | .soft => 3, 2]⟩ } ∧
      exec .replyTransmit s = .next s ∧ exec .noticeTransmit s = .next s) ∧
    (s.link.tx = none → s.link.boot = none → ∀ r rest, s.link.replies = r :: rest →
      exec .replyTransmit s = .next { s with
        link.tx := some ⟨.reply, frameBytes 0x80 r.tag (r.result.code :: r.detail :: r.data)⟩ } ∧
      exec .noticeTransmit s = .next s) ∧
    (s.link.tx = none → s.link.boot = none → s.link.replies = [] → ∀ r rest, s.delivery.records = r :: rest →
      exec .noticeTransmit s = .next (
        if s.delivery.credits = 0 then s
        else { s with
          delivery.credits := s.delivery.credits - 1
          link.tx := some ⟨.notice, frameBytes r.kind r.tag r.payload⟩ })) ∧
    (∀ f, s.link.tx = some ⟨.boot, f⟩ → exec .bootSent s = .next { s with link.tx := none, link.boot := none }) ∧
    (∀ f r rest, s.link.tx = some ⟨.reply, f⟩ → s.link.replies = r :: rest →
      s.link.restartPending = false ∨ rest ≠ [] →
      exec .replySent s = .next { s with link.tx := none, link.replies := rest }) ∧
    ∀ f r rest, s.link.tx = some ⟨.notice, f⟩ → s.delivery.records = r :: rest →
      exec .noticeSent s = .next { s with
        link.tx := none
        delivery.free := s.delivery.free + match r with
          | .data _ _ _ bufs => bufs.length
          | .done _ _ _ _ => 0
          | .pass _ _ _ _ _ => 0
          | .event _ => 0
          | .overflow _ => 0
        delivery.records := if s.delivery.folded = ⟨0, 0, 0, 0⟩ then rest else rest ++ [.overflow s.delivery.folded]
        delivery.folded := ⟨0, 0, 0, 0⟩ }

/-! ### Frame start -/

/-- The timer's expiry opens a frame: frame 0 after START, else the number plus 1; the streak goes to 0 if the ended frame
saw no collision; the marker is sent; while RUNNING, frames since heard advance to 64 at most and WAITING transactions
whose due frame this is become due, unless they time out (R10, R11, R13, R19, R76, R101, R127). -/
def Obligations.FrameStartOpensFrame : Prop :=
  ∀ s : State, s.Open → s.port.trunk.framesRun = true → s.port.timer ≠ .disarmed → s.port.pos = .idle →
    s.port.stopPending = false →
    let f := if s.port.timer = .firstFrame then s.port.frameNo else s.port.frameNo + 1
    let port : Port := { s.port with
      timer := .nextFrame, frameNo := f, streak := if s.port.collided then s.port.streak else 0
      collided := false, hit := false, pair := none
      tx := some (0x3C :: (halfBytes f ++ [crc8 (halfBytes f)]))
      pos := .marker (s.sched.adoptPending && decide (f.toNat % 16 = 0) &&
        decide (s.port.trunk = .running ∨ f = 16)) }
    let due : Attempt → Attempt := fun a =>
      if a.state = .waiting ∧ a.dueFrame = some f ∧ a.timedOutAt f s.cfg.deferWindow = false then { a with due := true }
      else a
    (s.port.trunk = .starting → exec .frameStart s = .next { s with port := port }) ∧
    (s.port.trunk = .running → exec .frameStart s = .next { s with
      port := port
      roster.entries := s.roster.entries.map fun e =>
        if (e.state = .active ∨ e.state = .faulty) ∧ e.sinceHeard < 64 then { e with sinceHeard := e.sinceHeard + 1 }
        else e
      engine.queue := s.engine.queue.map fun r => { r with attempt := due r.attempt }
      batch.state := match s.batch.state with
        | .empty => .empty
        | .loaded l => .loaded l
        | .running l r => .running l { r with current := r.current.map fun c => ⟨c.index, due c.attempt⟩ } })

/-- What a frame start brings: at frame 16 the trunk enters RUNNING with a TRUNK record, and the frame start is one in
RUNNING for stations and transactions; at a round start in RUNNING a pending adoption is carried out with a SCHEDULE record,
and a later one waits for the next round start (log entry 14); deferred WAITING host records past the window complete TIMED_OUT
in queue order, all by one row (log entry 15), and such a batch item ends TIMED_OUT (R6, R39, R41, R48, R76, R101, R106, R127, R141). -/
def Obligations.FrameStartResponses : Prop :=
  ∀ s : State, s.held = false →
    (∀ adopting, s.port.trunk = .starting → s.port.pos = .marker adopting → s.port.frameNo = 16 →
      ∃ t : State, exec .enterRunning s = .next t ∧ t.port = { s.port with trunk := .running } ∧ t.sched = s.sched ∧
        (∀ a, t.entry a = { s.entry a with
          sinceHeard := if ((s.entry a).state = .active ∨ (s.entry a).state = .faulty) ∧ (s.entry a).sinceHeard < 64
            then (s.entry a).sinceHeard + 1 else (s.entry a).sinceHeard }) ∧
        t.delivery = (if s.delivery.occupancy < 128 then
            { s.delivery with records := s.delivery.records ++ [.event (.trunk .running 16 none)] }
          else { s.delivery with folded.trunk := satInc s.delivery.folded.trunk }) ∧
        t.link = s.link ∧
        (let due : Attempt → Attempt := fun a =>
          if a.state = .waiting ∧ a.dueFrame = some 16 ∧ a.timedOutAt 16 s.cfg.deferWindow = false then
            { a with due := true } else a
        t.engine = { s.engine with queue := s.engine.queue.map fun r => { r with attempt := due r.attempt } } ∧
        t.batch = { s.batch with state := match s.batch.state with
          | .empty => .empty
          | .loaded l => .loaded l
          | .running l r => .running l { r with current := r.current.map fun c => ⟨c.index, due c.attempt⟩ } }) ∧
        t.roster.rollCursor = s.roster.rollCursor ∧ t.roster.presenceCursor = s.roster.presenceCursor) ∧
    (s.port.trunk = .running → s.port.pos = .marker true → s.sched.adoptPending = true →
      ∃ (t : State) (closed : List CircuitId), exec .adoptionAtRoundStart s = .next t ∧ Adopted s t closed ∧
        t.port = { s.port with pos := .marker false } ∧ t.link = s.link ∧
        t.delivery = (if s.delivery.occupancy < 128 then
            { s.delivery with
              free := t.delivery.free
              records := s.delivery.records ++ [.event (.schedule s.port.frameNo closed)] }
          else { s.delivery with free := t.delivery.free, folded.schedule := satInc s.delivery.folded.schedule })) ∧
    (s.port.trunk = .running → s.port.pos = .marker false → exec .adoptionAtRoundStart s = .next s) ∧
    (∀ adopting, s.port.trunk = .running → s.port.pos = .marker adopting → s.Accounting →
      let gone := s.engine.queue.filter fun r => r.attempt.timedOutAt s.port.frameNo s.cfg.deferWindow
      gone ≠ [] →
      ∃ t : State, exec .deferTimeout s = .next t ∧
        t.engine = { s.engine with
          queue := s.engine.queue.filter fun r => !r.attempt.timedOutAt s.port.frameNo s.cfg.deferWindow } ∧
        t.delivery = { s.delivery with
          hostRes := s.delivery.hostRes - gone.length
          records := s.delivery.records ++ gone.map fun r => .done r.tag .timedOut 0 [] } ∧
        t.link = { s.link with tags := s.link.tags.diff (gone.map HostRecord.tag) } ∧
        (∀ a, t.entry a = { s.entry a with
          marker := if ∃ r ∈ gone, r.request.station = a then none else (s.entry a).marker }) ∧
        t.port = s.port ∧ t.sched = s.sched ∧ t.batch = s.batch) ∧
    ∀ adopting l r c, s.port.trunk = .running → s.port.pos = .marker adopting → s.batch.state = .running l r →
      r.current = some c → c.attempt.timedOutAt s.port.frameNo s.cfg.deferWindow = true →
      exec .batchItemTimeout s = .next (s.endItem l r c ⟨.timedOut, []⟩)

/-! ### Slots -/

/-- A slot that opens on a circuit or on nothing (R14, R27). OUT, due, RUNNING: position 0 begins the head unit, or for an
empty queue a HOLD unit with an underrun and its LOSS event, and each position sends its cell; no unit, no cell. IN:
listened to in RUNNING; position 0 of a RUNNING circuit begins an assembly that claims w buffers, or has none and is
dropped with its LOSS event. Everything else is quiet (R58 to R60, R62, R67, R135). -/
def Obligations.SlotOpensOnCircuit : Prop :=
  ∀ (k : Nat) (s : State), s.OpensNext k →
    (s.sched.live = none → exec .slotOpen s = .next (s.opened k none .quiet)) ∧
    ∀ l, s.sched.live = some l →
      (l.NoPair k →
        (∀ id c, l.circuits.get id = some c → c.defn.due s.port.frameNo = true → k ∉ c.defn.slots) →
        exec .slotOpen s = .next (s.opened k none .quiet)) ∧
      ∀ id c p, l.Gives s.port.frameNo k id c p →
        let run := fun r : CircuitRun => s.setCircuit id { c with run := r }
        let lose := fun (cause : LossCause) (r : CircuitRun) (d : Delivery) =>
          ({ run { r with lossReported := true } with
            delivery := if c.run.lossReported = true then d
              else d.offerEvent (.loss id cause s.port.frameNo) } : State)
        (∀ d n, c.defn.ends = .out d n →
          let addr : BitVec 5 := match d with
            | .station a => BitVec.ofNat 5 (a.val + 1)
            | .broadcast => 31
          let cell := fun (kind : FlightKind) (cells : List Buf) =>
            cellBytes (packHeader 1 addr 0 (BitVec.ofNat 3 ((if p = 0 then 1 else 0) +
              (if p + 1 = c.defn.slots.length then 2 else 0) + if kind = .hold then 4 else 0)))
              (cells.getD p ⟨0, 0, 0, 0, 0, 0, 0, 0⟩)
          (p = 0 → s.port.trunk = .starting ∨ c.run.runState = .stalled →
            exec .slotOpen s = .next (s.opened k none .quiet)) ∧
          (p = 0 → s.port.trunk = .running → c.run.runState = .running → c.run.flight = none →
            (∀ u rest, c.run.queue = u :: rest →
              exec .slotOpen s = .next ((run { c.run with queue := rest, flight := some ⟨.data, u, 0⟩ }).opened k
                (some (cell .data u)) (.sendCircuit id 0))) ∧
            (c.run.queue = [] →
              let cells := c.run.lastSent.getD (List.replicate c.defn.slots.length ⟨0, 0, 0, 0, 0, 0, 0, 0⟩)
              exec .slotOpen s = .next ((lose .underrun { c.run with
                flight := some ⟨.hold, cells, 0⟩
                counters.underruns := satInc c.run.counters.underruns } s.delivery).opened k
                  (some (cell .hold cells)) (.sendCircuit id 0)))) ∧
          (0 < p → c.run.flight = none → exec .slotOpen s = .next (s.opened k none .quiet)) ∧
          (0 < p → ∀ f, c.run.flight = some f →
            exec .slotOpen s = .next (s.opened k (some (cell f.kind f.cells)) (.sendCircuit id p)))) ∧
        ∀ a filter, c.defn.ends = .inn a filter →
          (s.port.trunk = .starting → exec .slotOpen s = .next (s.opened k none .quiet)) ∧
          (s.port.trunk = .running → 0 < p ∨ c.run.runState = .stalled →
            exec .slotOpen s = .next (s.opened k none (.listenCircuit id p a))) ∧
          (s.port.trunk = .running → p = 0 → c.run.runState = .running → c.run.assembly = none →
            let w := c.defn.slots.length
            (w ≤ s.delivery.free →
              exec .slotOpen s = .next (State.opened k none (.listenCircuit id 0 a)
                { run { c.run with
                    assembly := some ⟨some (List.replicate w ⟨0, 0, 0, 0, 0, 0, 0, 0⟩), List.replicate w .pending⟩ }
                  with delivery := { s.delivery with free := s.delivery.free - w } })) ∧
            (s.delivery.free < w →
              exec .slotOpen s = .next ((lose .noBuffer { c.run with
                assembly := some ⟨none, List.replicate w .pending⟩
                counters.dropped := satInc c.run.counters.dropped } s.delivery).opened k none
                  (.listenCircuit id 0 a))))

/-- A slot that opens on an open pair. The roster is served first: in STARTING by roll call in every pair, in RUNNING by one
bid in the first pair of a round start, roll call first in an even round; then the requesters by the turn marker, a first
issue taking the next token of its station and its marker, a reissue keeping its token; else NULL. The REPLY slot is
listened to where an answer is expected (R14, R77 to R80, R95, R96, R100, R102, R103, R124, R126). -/
def Obligations.SlotOpensOnPair : Prop :=
  ∀ (k : Nat) (l : LiveSchedule) (s : State), s.OpensNext k → s.sched.live = some l →
    let sent : List Byte → Option Pair → State → State := fun cell pair u =>
      State.opened k (some cell) .sendPair { u with port := { s.port with pair := pair } }
    let rolls := fun a : StAddr => exec .slotOpen s = .next (sent (cellBytes (packHeader 3 (addrField a) 0 0) Buf.zero)
      (some ⟨.rollCall, a, 0⟩) { s with roster.rollCursor := a + 1 })
    let checks := fun a : StAddr => exec .slotOpen s = .next (sent (cellBytes (packHeader 4 (addrField a) 0 0) Buf.zero)
      (some ⟨.presenceCheck, a, 0⟩) { s with roster.presenceCursor := a + 1 })
    let nothing := cellBytes (packHeader 5 0 0 0) Buf.zero
    (k ∉ l.pairs → (∃ j ∈ l.pairs, k = j + 1) → exec .slotOpen s = .next
      (s.opened k none (if s.port.pair.isSome then .listenReply else .quiet))) ∧
    (k ∈ l.pairs →
      (s.port.trunk = .starting → ∀ a, s.roster.FirstFrom s.roster.rollCursor RollDue a → rolls a) ∧
      (s.port.trunk = .starting → s.roster.NoneDue RollDue → exec .slotOpen s = .next (sent nothing none s)) ∧
      (s.port.trunk = .running → s.port.frameNo.toNat % 16 = 0 → (∀ j ∈ l.pairs, k ≤ j) → ∀ a,
        (s.roster.FirstFrom s.roster.rollCursor RollDue a →
          s.port.frameNo.toNat / 16 % 2 = 0 ∨ s.roster.NoneDue PresenceDue → rolls a) ∧
        (s.roster.FirstFrom s.roster.presenceCursor PresenceDue a →
          s.port.frameNo.toNat / 16 % 2 = 1 ∨ s.roster.NoneDue RollDue → checks a)) ∧
      (s.ByTurn k l →
        ((s.engine.queue.map HostRecord.tag).Nodup → ∀ before r after t, s.engine.queue = before ++ r :: after →
          (∀ q ∈ before, q.Skipped s) → r.Ready s →
          (s.engine.turn = .host ∨ ∀ l' b c it, ¬ s.BatchReady l' b c it) →
          (if r.attempt.state = .queued then t = s.engine.tokens.get r.request.station + 1
            else r.attempt.token = some t) →
          exec .slotOpen s = .next (sent (r.request.cell t) (some ⟨.hostRecord r.tag, r.request.station, t⟩) { s with
            engine := {
              queue := before ++ { r with attempt := r.attempt.nowIssued s.port.frameNo t } :: after
              tokens := if r.attempt.state = .queued then s.engine.tokens.set r.request.station t else s.engine.tokens
              turn := .batch
              strays := s.engine.strays }
            roster := if r.attempt.state = .queued then (s.setEntry r.request.station
                { s.entry r.request.station with marker := some ⟨.host, r.tag⟩ }).roster
              else s.roster })) ∧
        (∀ b r c it t, s.BatchReady b r c it → (s.engine.turn = .batch ∨ ∀ q ∈ s.engine.queue, q.Skipped s) →
          (if c.attempt.state = .queued then t = s.engine.tokens.get it.station + 1 else c.attempt.token = some t) →
          exec .slotOpen s = .next (sent (it.cell t) (some ⟨.batchItem r.pass c.index, it.station, t⟩) { s with
            engine := { s.engine with
              tokens := if c.attempt.state = .queued then s.engine.tokens.set it.station t else s.engine.tokens
              turn := .host }
            batch.state := .running b { r with current := some ⟨c.index, c.attempt.nowIssued s.port.frameNo t⟩ }
            roster := if c.attempt.state = .queued then (s.setEntry it.station
                { s.entry it.station with marker := some ⟨.batch, r.tag⟩ }).roster
              else s.roster })) ∧
        ((∀ q ∈ s.engine.queue, q.Skipped s) → (∀ b r c it, ¬ s.BatchReady b r c it) →
          exec .slotOpen s = .next (sent nothing none s)) ∧
        ((s.engine.queue.map HostRecord.tag).Nodup → ∀ before r after, s.engine.queue = before ++ r :: after →
          (∀ q ∈ before, q.Skipped s) → r.attempt.state = .queued →
          (s.entry r.request.station).state.unavailable = true →
          (s.engine.turn = .host ∨ ∀ b b' c it, ¬ s.BatchReady b b' c it) →
          let done := { s with
            engine.queue := before ++ after
            delivery.hostRes := s.delivery.hostRes - 1
            delivery.records := s.delivery.records ++ [.done r.tag .stationUnavailable 0 []]
            link.tags := s.link.tags.erase r.tag }
          done.OpensNext k → exec .slotOpen s = exec .slotOpen done)))

/-- A closing slot that carried the port's own cell, nothing, or a circuit's DATA. A cell is GOOD only with its check, its
kind, its address and its token right and its 96 bits ended. An OUT unit sent to its last position becomes the last-sent
copy and its buffers return; an assembly stores each judgement, and at its last position ends with a miss or is heard and
delivered, suppressed or dropped. Each cell begun in a quiet slot counts as it begins or at the closing; TDE is low after
the last bit (R15, R16, R18, R21, R61, R63 to R67, R140). That silence counts by the run state at the closing (log entry 10),
and that a unit's report comes before its delivery (log entry 17), are the model's reading; moments are log entry 1. -/
def Obligations.SlotClosesOnCircuit : Prop :=
  (∀ (line : SlotLine) (kind : BitVec 4) (a : StAddr) (token : Option Token) (payload : Buf),
    (judge line kind a token = .silent ↔ line = .silent) ∧
    (judge line kind a token = .good payload ↔ ∃ header check later, line = .cell ⟨header, payload, check, true⟩ later ∧
      check = crc16 (halfBytes header ++ payload.bytes) ∧ headerKind header = kind ∧ headerAddr header = addrField a ∧
      ∀ t, token = some t → headerToken header = t)) ∧
  (∀ (s : State) (rest : List Moment), s.held = false → s.pending = [] →
    (s.moments = .ttxEnd :: rest → step s = .next { s with moments := rest, port.tx := none, port.hit := false }) ∧
    (s.moments = .trxCell :: rest →
      (∀ k, s.port.trunk.framesRun = true → s.port.pos = .slotOpen k .quiet →
        step s = .next { s with moments := rest, port.badCells := satInc s.port.badCells }) ∧
      (s.port.trunk.framesRun = false ∨ (∀ k, s.port.pos ≠ .slotOpen k .quiet) →
        step s = .next { s with moments := rest }))) ∧
  ∀ (k : Nat) (line : SlotLine) (s : State),
    (s.HasOpen k .sendPair → exec (.slotClose line) s = .next (s.closed k)) ∧
    (s.HasOpen k .quiet → exec (.slotClose line) s = .next (
      match line with
      | .silent => s.closed k
      | .cell _ later => { s.closed k with
          port.badCells := BitVec.ofNat 16 (min 65535 (s.port.badCells.toNat + later + 1)) })) ∧
    ∀ (id : CircuitId) (p : Nat),
      (s.HasOpen k (.sendCircuit id p) →
        ((s.circuit id).bind (fun c => c.run.flight) = none → exec (.slotClose line) s = .next (s.closed k)) ∧
        ∀ c f, s.circuit id = some c → c.run.flight = some f →
          (p + 1 ≠ c.defn.slots.length → exec (.slotClose line) s = .next
            ((s.closed k).setCircuit id { c with run.flight := some { f with sent := p + 1 } })) ∧
          (p + 1 = c.defn.slots.length → f.kind = .data → exec (.slotClose line) s = .next
            { (s.closed k).setCircuit id { c with
                run.flight := none, run.lastSent := some f.cells
                run.counters.sent := satInc c.run.counters.sent }
              with delivery := { s.delivery with free := s.delivery.free + f.cells.length } }) ∧
          (p + 1 = c.defn.slots.length → f.kind = .hold → exec (.slotClose line) s = .next
            ((s.closed k).setCircuit id { c with
              run.flight := none, run.counters.holds := satInc c.run.counters.holds }))) ∧
      ∀ a : StAddr, s.HasOpen k (.listenCircuit id p a) →
        let j := judge line 8 a none
        let base : State := { s.closed k with
          port.badCells := if j = .bad then satInc s.port.badCells else s.port.badCells
          port.silentSlots := if j = .silent ∧ (s.circuit id).map (fun c => c.run.runState) = some .running
            then satInc s.port.silentSlots else s.port.silentSlots }
        ((s.circuit id).bind (fun c => c.run.assembly) = none → exec (.slotClose line) s = .next base) ∧
        ∀ c asm, s.circuit id = some c → c.run.assembly = some asm →
          let status := asm.status.set p j.status
          let bufs := asm.bufs.map fun b => b.set p j.stored
          let run : State → CircuitRun → State := fun u r => u.setCircuit id { c with run := r }
          let held := (asm.bufs.map List.length).getD 0
          let heard := (run base { c.run with assembly := some ⟨bufs, status⟩ }).heard a
          (p + 1 ≠ c.defn.slots.length → exec (.slotClose line) s = .next
            (run base { c.run with assembly := some ⟨bufs, status⟩ })) ∧
          (p + 1 = c.defn.slots.length → (∀ x ∈ status, x ≠ .good) → exec (.slotClose line) s = .next
            (State.missed a { run base { c.run with assembly := none } with
              delivery := { s.delivery with free := s.delivery.free + held } })) ∧
          (p + 1 = c.defn.slots.length → (∃ x ∈ status, x = .good) →
            (bufs = none → exec (.slotClose line) s = .next (run heard { c.run with assembly := none })) ∧
            ∀ unit, bufs = some unit →
              let passes := c.defn.filterOn = false ∨ (∃ x ∈ status, x ≠ .good) ∨ c.run.lastDelivered ≠ some unit
              (passes → heard.delivery.occupancy < 96 → exec (.slotClose line) s = .next
                { run heard { c.run with
                    assembly := none
                    lastDelivered := if ∀ x ∈ status, x = .good then some unit else none
                    counters.delivered := satInc c.run.counters.delivered }
                  with delivery := { heard.delivery with
                    records := heard.delivery.records ++ [.data id s.port.frameNo status unit] } }) ∧
              (passes → 96 ≤ heard.delivery.occupancy → exec (.slotClose line) s = .next
                { run heard { c.run with
                    assembly := none, lossReported := true
                    counters.dropped := satInc c.run.counters.dropped }
                  with delivery :=
                    let returned := { heard.delivery with free := heard.delivery.free + unit.length }
                    if c.run.lossReported = true then returned
                    else returned.offerEvent (.loss id .noRoom s.port.frameNo) }) ∧
              (¬ passes → exec (.slotClose line) s = .next
                { run heard { c.run with
                    assembly := none, counters.suppressed := satInc c.run.counters.suppressed }
                  with delivery := { heard.delivery with free := heard.delivery.free + unit.length } }))

/-- A closing REPLY slot of a roll call or a presence check. A GOOD IDENT makes an ABSENT or LOST station FOUND, or ACTIVE
again where it was LOST, has the same serial number and rejoins automatically. A GOOD HERE is a heard report, anything else
a miss report, which may make the station FAULTY, or LOST with its cascade: circuits stalled, host records completed
STATION_LOST in order, its current batch item ended STATION_LOST (BatchItemEnds), then the STATION record (R16, R21, R74, R75, R80 to R84, R90,
R112, R131). -/
def Obligations.SlotClosesOnRosterCell : Prop :=
  ∀ (k : Nat) (line : SlotLine) (s : State), s.HasOpen k .listenReply →
    (s.port.pair = none → exec (.slotClose line) s = .next (s.closed k)) ∧
    ∀ (a : StAddr) (tok : Token),
      let e := s.entry a
      let offered := fun (u : State) (ev : StationEvent) (replaced : Bool) (i : Option Identity) =>
        ({ u with delivery := u.delivery.offerEvent (.station a ev replaced s.port.frameNo i) } : State)
      (s.port.pair = some ⟨.rollCall, a, tok⟩ →
        let j := judge line 10 a none
        let base : State := { s.closed k with
          port.pair := none, port.badCells := if j = .bad then satInc s.port.badCells else s.port.badCells }
        ((∀ p, j ≠ .good p) ∨ (e.state ≠ .absent ∧ e.state ≠ .lost) → exec (.slotClose line) s = .next base) ∧
        ∀ p, j = .good p →
          let i : Identity := ⟨p.b0 ++ p.b1, p.b2, p.b3 ++ p.b4 ++ p.b5 ++ p.b6, p.b7⟩
          let found : State := base.setEntry a ⟨.found, 0, 0, some i, false, e.marker⟩
          (e.state = .absent → exec (.slotClose line) s = .next (offered found .found false (some i))) ∧
          (e.state = .lost → e.identity.map Identity.serial ≠ some i.serial →
            exec (.slotClose line) s = .next (offered found .found true (some i))) ∧
          (e.state = .lost → e.identity.map Identity.serial = some i.serial → e.autoRejoin = false →
            exec (.slotClose line) s = .next (offered found .found false (some i))) ∧
          (e.state = .lost → e.identity.map Identity.serial = some i.serial → e.autoRejoin = true →
            ∃ t : State, exec (.slotClose line) s = .next t ∧
              t.roster = (s.setEntry a { e with
                state := .active, missCount := 0, sinceHeard := 0, identity := some i }).roster ∧
              (∀ id, t.circuit id = (s.circuit id).map fun c =>
                if c.defn.station? = some a ∧ c.run.runState = .stalled then
                  { c with run.runState := .running, run.lastDelivered := none } else c) ∧
              t.delivery = s.delivery.offerEvent (.station a .rejoined false s.port.frameNo (some i)) ∧
              t.port = base.port ∧ t.engine = s.engine ∧ t.batch = s.batch ∧ t.link = s.link ∧
              t.sched.draft = s.sched.draft ∧ t.sched.adoptPending = s.sched.adoptPending)) ∧
      (s.port.pair = some ⟨.presenceCheck, a, tok⟩ →
        let j := judge line 11 a none
        let base : State := { s.closed k with
          port.pair := none
          port.badCells := if j = .bad then satInc s.port.badCells else s.port.badCells
          port.silentSlots := if j = .silent then satInc s.port.silentSlots else s.port.silentSlots }
        (e.state = .absent ∨ e.state = .lost ∨ e.state = .excluded → exec (.slotClose line) s = .next base) ∧
        (∀ p, j = .good p →
          (e.state = .active ∨ e.state = .found → exec (.slotClose line) s = .next
            (base.setEntry a { e with missCount := 0, sinceHeard := 0 })) ∧
          (e.state = .faulty → exec (.slotClose line) s = .next
            (offered (base.setEntry a { e with state := .active, missCount := 0, sinceHeard := 0 })
              .recovered false none))) ∧
        ((∀ p, j ≠ .good p) → e.state = .active ∨ e.state = .found ∨ e.state = .faulty →
          let n := e.missCount + 1
          (n < s.cfg.lossLimit → n < s.cfg.missThreshold ∨ e.state ≠ .active → exec (.slotClose line) s = .next
            (base.setEntry a { e with missCount := n })) ∧
          (n < s.cfg.lossLimit → s.cfg.missThreshold ≤ n → e.state = .active → exec (.slotClose line) s = .next
            (offered (base.setEntry a { e with state := .faulty, missCount := n }) .faulty false none)) ∧
          (s.cfg.lossLimit ≤ n → s.Accounting → s.MarkerLaw →
            ∃ u t : State, exec (.slotClose line) s = .next (offered t .lost false none) ∧
              StationGone base a { e with state := .lost, missCount := n } .stationLost u ∧
              ((∀ l r c, ¬ s.ItemAt a l r c) → t = u) ∧
              ∀ l r c, s.ItemAt a l r c → t = u.endItem l r c ⟨.stationLost, []⟩)))

/-- A closing REPLY slot after a REQUEST. DONE and REJECT complete the transaction, DEFER makes it WAITING with its defer
flag set, a failed attempt makes it WAITING with one failure more or, past the retry limit, completes it NO_ANSWER; then
the report goes to the roster. With the abort flag set, an item that would wait ends ABORTED. Where the transaction is gone
or no longer ISSUED, a GOOD answer is a stray and the roster hears nothing (R21, R74, R75, R94, R104, R105, R108, R113,
R126, R129, R131). -/
def Obligations.SlotClosesOnAnswer : Prop :=
  ∀ (k : Nat) (line : SlotLine) (a : StAddr) (tok : Token) (s : State), s.HasOpen k .listenReply →
    let j := judge line 9 a (some tok)
    let base : State := { s.closed k with
      port.pair := none
      port.badCells := if j = .bad then satInc s.port.badCells else s.port.badCells
      port.silentSlots := if j = .silent then satInc s.port.silentSlots else s.port.silentSlots }
    let stray : State := { base with
      engine.strays := if j = .bad ∨ j = .silent then s.engine.strays else satInc s.engine.strays }
    let told : State → State := fun u => if j = .bad ∨ j = .silent then u.missed a else u.heard a
    let failed := j = .bad ∨ j = .silent ∨ ∃ p, j = .good p ∧ (2 < p.b0.toNat ∨ 4 < p.b2.toNat)
    let data : Buf → List Byte := fun p => [p.b3, p.b4, p.b5, p.b6].take p.b2.toNat
    let waits : Attempt → Attempt := fun x =>
      { x with state := .waiting, dueFrame := some (s.port.frameNo + 1), due := false }
    (∀ tag, s.port.pair = some ⟨.hostRecord tag, a, tok⟩ →
      ((∀ r ∈ s.engine.queue, r.tag = tag → r.attempt.state ≠ .issued) →
        exec (.slotClose line) s = .next stray) ∧
      ((s.engine.queue.map HostRecord.tag).Nodup → ∀ before r after, s.engine.queue = before ++ r :: after →
        r.tag = tag → r.attempt.state = .issued →
        let put : Attempt → State := fun x => { base with
          engine.queue := before ++ { r with attempt := x } :: after }
        let complete : TxnOutcome → Byte → List Byte → State := fun o reason bytes => { base with
          engine.queue := before ++ after
          roster := (s.setEntry r.request.station { s.entry r.request.station with marker := none }).roster
          delivery.hostRes := s.delivery.hostRes - 1
          delivery.records := s.delivery.records ++ [.done tag o reason bytes]
          link.tags := s.link.tags.erase tag }
        (∀ p, j = .good p → p.b2.toNat ≤ 4 →
          (p.b0 = 0 → exec (.slotClose line) s = .next (told (complete .done 0 (data p)))) ∧
          (p.b0 = 1 → exec (.slotClose line) s = .next (told (put (waits { r.attempt with deferred := true })))) ∧
          (p.b0 = 2 → exec (.slotClose line) s = .next (told (complete .rejected p.b1 [])))) ∧
        (failed → r.attempt.failures + 1 ≤ s.cfg.retryLimit → exec (.slotClose line) s = .next
          (told (put (waits { r.attempt with failures := r.attempt.failures + 1 })))) ∧
        (failed → s.cfg.retryLimit < r.attempt.failures + 1 → exec (.slotClose line) s = .next
          (told (complete .noAnswer 0 []))))) ∧
    ∀ pass index, s.port.pair = some ⟨.batchItem pass index, a, tok⟩ →
      ((∀ l r c, s.batch.state = .running l r → r.current = some c →
          ¬ (r.pass = pass ∧ c.index = index ∧ c.attempt.state = .issued)) →
        exec (.slotClose line) s = .next stray) ∧
      ∀ l r c, s.batch.state = .running l r → r.current = some c → r.pass = pass → c.index = index →
        c.attempt.state = .issued →
        let put : Attempt → State := fun x =>
          if r.abort = true then base.endItem l r c ⟨.aborted, []⟩
          else { base with batch.state := .running l { r with current := some ⟨c.index, x⟩ } }
        (∀ p, j = .good p → p.b2.toNat ≤ 4 →
          (p.b0 = 0 → exec (.slotClose line) s = .next (told (base.endItem l r c ⟨.done, data p⟩))) ∧
          (p.b0 = 1 → exec (.slotClose line) s = .next (told (put (waits { c.attempt with deferred := true })))) ∧
          (p.b0 = 2 → exec (.slotClose line) s = .next (told (base.endItem l r c ⟨.rejected, [p.b1]⟩)))) ∧
        (failed → c.attempt.failures + 1 ≤ s.cfg.retryLimit → exec (.slotClose line) s = .next
          (told (put (waits { c.attempt with failures := c.attempt.failures + 1 })))) ∧
        (failed → s.cfg.retryLimit < c.attempt.failures + 1 → exec (.slotClose line) s = .next
          (told (base.endItem l r c ⟨.noAnswer, []⟩)))

/-! ### Collisions and the line fault -/

/-- A collision counts once in each marker or cell; the first of a frame adds 1 to the streak, and at a streak of 3 the line
fault halts the trunk: the line is released, the frame abandoned, every unit cut short given up, every station entry reset
as at frames stopping, every host record completed TRUNK_HALTED in acceptance order, the batch run ended with its final PASS
record or decided, a pending adoption carried out with a SCHEDULE record, and a TRUNK record offered (R9, R19, R20, R42,
R48, R69, R70, R91, R114, R132, R148). The order among those records is free (log entry 4). -/
def Obligations.CollisionsAndLineFault : Prop :=
  ∀ (place : FaultPos) (s : State), s.Open → s.port.trunk.framesRun = true → s.port.tx ≠ none → s.port.hit = false →
    ((∃ adopting, s.port.pos = .marker adopting ∧ place = .marker) ∨
      ∃ k mode, s.port.pos = .slotOpen k mode ∧ place = .slot k) →
    (s.port.collided = true → exec .collision s = .next { s with
      port.collisions := satInc s.port.collisions, port.hit := true }) ∧
    (s.port.collided = false → s.port.streak < 2 → exec .collision s = .next { s with
      port.collisions := satInc s.port.collisions, port.hit := true, port.collided := true
      port.streak := s.port.streak + 1 }) ∧
    (s.port.collided = false → s.port.streak = 2 → s.Accounting → s.MarkerLaw →
      ∃ t : State, exec .collision s = .next t ∧
        t.port = { s.port with
          collisions := satInc s.port.collisions, collided := true, streak := 3, trunk := .halted
          stopPending := false, timer := .disarmed, hit := false, pos := .idle, tx := none, pair := none } ∧
        (∀ a, t.entry a = { s.entry a with
          state := if (s.entry a).state = .faulty then .active else (s.entry a).state
          missCount := 0, sinceHeard := 0, marker := none }) ∧
        t.engine = { s.engine with queue := [] } ∧
        t.sched.draft = s.sched.draft ∧ t.sched.adoptPending = false ∧
        (s.sched.adoptPending = false → ∀ id, t.circuit id = (s.circuit id).map LiveCircuit.abandon) ∧
        t.roster.rollCursor = s.roster.rollCursor ∧ t.roster.presenceCursor = s.roster.presenceCursor ∧
        t.delivery.free + t.circuitsHeld = s.delivery.free + s.circuitsHeld ∧
        t.delivery.credits = s.delivery.credits ∧ t.batch.preset = s.batch.preset ∧
        (match s.batch.state with
          | .empty => t.batch.state = .empty
          | .loaded l => t.batch.state = .loaded l
          | .running l r =>
            if r.waiting then
              t.batch.state = .running l { r with decided := some (r.decided.getD .trunkHalted) }
            else t.batch.state = .loaded l) ∧
        (∃ new closed, t.delivery.records = s.delivery.records ++ new ∧
          (s.sched.adoptPending = true →
            AdoptsTo (fun id => (s.circuit id).map LiveCircuit.abandon) s.roster.entries s.sched.draft t closed) ∧
          StopRecords s.delivery (s.engine.queue.map fun r => .done r.tag .trunkHalted 0 [])
            (s.batch.state.finalPass .trunkHalted .trunkHalted)
            (.event (.trunk .halted s.port.frameNo (some place)) ::
              if s.sched.adoptPending then [.event (.schedule s.port.frameNo closed)] else [])
            new t.delivery.folded) ∧
        t.link.tags.Perm t.batch.state.tags ∧ t.delivery.hostRes = 0 ∧ t.link = { s.link with tags := t.link.tags })
end

