-- ==== Sys2Proof/Laws/State.lean ====
section
/-! SUPPORT. What each setter of the state does to each block: one lemma per setter and block, all true by rfl, so that
no proof unfolds a record update; and the field lemmas of the state's derived readings. -/

namespace Sys2Proof.Machine

variable (s : State)

@[simp] theorem State.withPort_port (p : Port) : (s.withPort p).port = p := rfl
@[simp] theorem State.withPort_sched (p : Port) : (s.withPort p).sched = s.sched := rfl
@[simp] theorem State.withPort_roster (p : Port) : (s.withPort p).roster = s.roster := rfl
@[simp] theorem State.withPort_engine (p : Port) : (s.withPort p).engine = s.engine := rfl
@[simp] theorem State.withPort_batch (p : Port) : (s.withPort p).batch = s.batch := rfl
@[simp] theorem State.withPort_delivery (p : Port) : (s.withPort p).delivery = s.delivery := rfl
@[simp] theorem State.withPort_link (p : Port) : (s.withPort p).link = s.link := rfl
@[simp] theorem State.withPort_draws (p : Port) : (s.withPort p).draws = s.draws := rfl
@[simp] theorem State.withPort_moments (p : Port) : (s.withPort p).moments = s.moments := rfl
@[simp] theorem State.withPort_pending (p : Port) : (s.withPort p).pending = s.pending := rfl
@[simp] theorem State.withPort_self : s.withPort s.port = s := rfl
@[simp] theorem State.withPort_twice (p p' : Port) : (s.withPort p).withPort p' = s.withPort p' := rfl

@[simp] theorem State.withSched_port (c : Sched) : (s.withSched c).port = s.port := rfl
@[simp] theorem State.withSched_sched (c : Sched) : (s.withSched c).sched = c := rfl
@[simp] theorem State.withSched_roster (c : Sched) : (s.withSched c).roster = s.roster := rfl
@[simp] theorem State.withSched_engine (c : Sched) : (s.withSched c).engine = s.engine := rfl
@[simp] theorem State.withSched_batch (c : Sched) : (s.withSched c).batch = s.batch := rfl
@[simp] theorem State.withSched_delivery (c : Sched) : (s.withSched c).delivery = s.delivery := rfl
@[simp] theorem State.withSched_link (c : Sched) : (s.withSched c).link = s.link := rfl
@[simp] theorem State.withSched_draws (c : Sched) : (s.withSched c).draws = s.draws := rfl
@[simp] theorem State.withSched_moments (c : Sched) : (s.withSched c).moments = s.moments := rfl
@[simp] theorem State.withSched_pending (c : Sched) : (s.withSched c).pending = s.pending := rfl
@[simp] theorem State.withSched_self : s.withSched s.sched = s := rfl
@[simp] theorem State.withSched_twice (c c' : Sched) : (s.withSched c).withSched c' = s.withSched c' := rfl

@[simp] theorem State.withRoster_port (r : Roster) : (s.withRoster r).port = s.port := rfl
@[simp] theorem State.withRoster_sched (r : Roster) : (s.withRoster r).sched = s.sched := rfl
@[simp] theorem State.withRoster_roster (r : Roster) : (s.withRoster r).roster = r := rfl
@[simp] theorem State.withRoster_engine (r : Roster) : (s.withRoster r).engine = s.engine := rfl
@[simp] theorem State.withRoster_batch (r : Roster) : (s.withRoster r).batch = s.batch := rfl
@[simp] theorem State.withRoster_delivery (r : Roster) : (s.withRoster r).delivery = s.delivery := rfl
@[simp] theorem State.withRoster_link (r : Roster) : (s.withRoster r).link = s.link := rfl
@[simp] theorem State.withRoster_draws (r : Roster) : (s.withRoster r).draws = s.draws := rfl
@[simp] theorem State.withRoster_moments (r : Roster) : (s.withRoster r).moments = s.moments := rfl
@[simp] theorem State.withRoster_pending (r : Roster) : (s.withRoster r).pending = s.pending := rfl
@[simp] theorem State.withRoster_self : s.withRoster s.roster = s := rfl
@[simp] theorem State.withRoster_twice (r r' : Roster) : (s.withRoster r).withRoster r' = s.withRoster r' := rfl

@[simp] theorem State.withEngine_port (e : Engine) : (s.withEngine e).port = s.port := rfl
@[simp] theorem State.withEngine_sched (e : Engine) : (s.withEngine e).sched = s.sched := rfl
@[simp] theorem State.withEngine_roster (e : Engine) : (s.withEngine e).roster = s.roster := rfl
@[simp] theorem State.withEngine_engine (e : Engine) : (s.withEngine e).engine = e := rfl
@[simp] theorem State.withEngine_batch (e : Engine) : (s.withEngine e).batch = s.batch := rfl
@[simp] theorem State.withEngine_delivery (e : Engine) : (s.withEngine e).delivery = s.delivery := rfl
@[simp] theorem State.withEngine_link (e : Engine) : (s.withEngine e).link = s.link := rfl
@[simp] theorem State.withEngine_draws (e : Engine) : (s.withEngine e).draws = s.draws := rfl
@[simp] theorem State.withEngine_moments (e : Engine) : (s.withEngine e).moments = s.moments := rfl
@[simp] theorem State.withEngine_pending (e : Engine) : (s.withEngine e).pending = s.pending := rfl
@[simp] theorem State.withEngine_self : s.withEngine s.engine = s := rfl
@[simp] theorem State.withEngine_twice (e e' : Engine) : (s.withEngine e).withEngine e' = s.withEngine e' := rfl

@[simp] theorem State.withBatch_port (b : BatchUnit) : (s.withBatch b).port = s.port := rfl
@[simp] theorem State.withBatch_sched (b : BatchUnit) : (s.withBatch b).sched = s.sched := rfl
@[simp] theorem State.withBatch_roster (b : BatchUnit) : (s.withBatch b).roster = s.roster := rfl
@[simp] theorem State.withBatch_engine (b : BatchUnit) : (s.withBatch b).engine = s.engine := rfl
@[simp] theorem State.withBatch_batch (b : BatchUnit) : (s.withBatch b).batch = b := rfl
@[simp] theorem State.withBatch_delivery (b : BatchUnit) : (s.withBatch b).delivery = s.delivery := rfl
@[simp] theorem State.withBatch_link (b : BatchUnit) : (s.withBatch b).link = s.link := rfl
@[simp] theorem State.withBatch_draws (b : BatchUnit) : (s.withBatch b).draws = s.draws := rfl
@[simp] theorem State.withBatch_moments (b : BatchUnit) : (s.withBatch b).moments = s.moments := rfl
@[simp] theorem State.withBatch_pending (b : BatchUnit) : (s.withBatch b).pending = s.pending := rfl
@[simp] theorem State.withBatch_self : s.withBatch s.batch = s := rfl
@[simp] theorem State.withBatch_twice (b b' : BatchUnit) : (s.withBatch b).withBatch b' = s.withBatch b' := rfl

@[simp] theorem State.withDelivery_port (d : Delivery) : (s.withDelivery d).port = s.port := rfl
@[simp] theorem State.withDelivery_sched (d : Delivery) : (s.withDelivery d).sched = s.sched := rfl
@[simp] theorem State.withDelivery_roster (d : Delivery) : (s.withDelivery d).roster = s.roster := rfl
@[simp] theorem State.withDelivery_engine (d : Delivery) : (s.withDelivery d).engine = s.engine := rfl
@[simp] theorem State.withDelivery_batch (d : Delivery) : (s.withDelivery d).batch = s.batch := rfl
@[simp] theorem State.withDelivery_delivery (d : Delivery) : (s.withDelivery d).delivery = d := rfl
@[simp] theorem State.withDelivery_link (d : Delivery) : (s.withDelivery d).link = s.link := rfl
@[simp] theorem State.withDelivery_draws (d : Delivery) : (s.withDelivery d).draws = s.draws := rfl
@[simp] theorem State.withDelivery_moments (d : Delivery) : (s.withDelivery d).moments = s.moments := rfl
@[simp] theorem State.withDelivery_pending (d : Delivery) : (s.withDelivery d).pending = s.pending := rfl
@[simp] theorem State.withDelivery_self : s.withDelivery s.delivery = s := rfl
@[simp] theorem State.withDelivery_twice (d d' : Delivery) : (s.withDelivery d).withDelivery d' = s.withDelivery d' := rfl

@[simp] theorem State.withLink_port (l : Link) : (s.withLink l).port = s.port := rfl
@[simp] theorem State.withLink_sched (l : Link) : (s.withLink l).sched = s.sched := rfl
@[simp] theorem State.withLink_roster (l : Link) : (s.withLink l).roster = s.roster := rfl
@[simp] theorem State.withLink_engine (l : Link) : (s.withLink l).engine = s.engine := rfl
@[simp] theorem State.withLink_batch (l : Link) : (s.withLink l).batch = s.batch := rfl
@[simp] theorem State.withLink_delivery (l : Link) : (s.withLink l).delivery = s.delivery := rfl
@[simp] theorem State.withLink_link (l : Link) : (s.withLink l).link = l := rfl
@[simp] theorem State.withLink_draws (l : Link) : (s.withLink l).draws = s.draws := rfl
@[simp] theorem State.withLink_moments (l : Link) : (s.withLink l).moments = s.moments := rfl
@[simp] theorem State.withLink_pending (l : Link) : (s.withLink l).pending = s.pending := rfl
@[simp] theorem State.withLink_self : s.withLink s.link = s := rfl
@[simp] theorem State.withLink_twice (l l' : Link) : (s.withLink l).withLink l' = s.withLink l' := rfl

@[simp] theorem State.withDraws_port (n : Nat) : (s.withDraws n).port = s.port := rfl
@[simp] theorem State.withDraws_sched (n : Nat) : (s.withDraws n).sched = s.sched := rfl
@[simp] theorem State.withDraws_roster (n : Nat) : (s.withDraws n).roster = s.roster := rfl
@[simp] theorem State.withDraws_engine (n : Nat) : (s.withDraws n).engine = s.engine := rfl
@[simp] theorem State.withDraws_batch (n : Nat) : (s.withDraws n).batch = s.batch := rfl
@[simp] theorem State.withDraws_delivery (n : Nat) : (s.withDraws n).delivery = s.delivery := rfl
@[simp] theorem State.withDraws_link (n : Nat) : (s.withDraws n).link = s.link := rfl
@[simp] theorem State.withDraws_draws (n : Nat) : (s.withDraws n).draws = n := rfl
@[simp] theorem State.withDraws_moments (n : Nat) : (s.withDraws n).moments = s.moments := rfl
@[simp] theorem State.withDraws_pending (n : Nat) : (s.withDraws n).pending = s.pending := rfl
@[simp] theorem State.withDraws_self : s.withDraws s.draws = s := rfl
@[simp] theorem State.withDraws_twice (n n' : Nat) : (s.withDraws n).withDraws n' = s.withDraws n' := rfl

@[simp] theorem State.withMoments_port (m : List Moment) : (s.withMoments m).port = s.port := rfl
@[simp] theorem State.withMoments_sched (m : List Moment) : (s.withMoments m).sched = s.sched := rfl
@[simp] theorem State.withMoments_roster (m : List Moment) : (s.withMoments m).roster = s.roster := rfl
@[simp] theorem State.withMoments_engine (m : List Moment) : (s.withMoments m).engine = s.engine := rfl
@[simp] theorem State.withMoments_batch (m : List Moment) : (s.withMoments m).batch = s.batch := rfl
@[simp] theorem State.withMoments_delivery (m : List Moment) : (s.withMoments m).delivery = s.delivery := rfl
@[simp] theorem State.withMoments_link (m : List Moment) : (s.withMoments m).link = s.link := rfl
@[simp] theorem State.withMoments_draws (m : List Moment) : (s.withMoments m).draws = s.draws := rfl
@[simp] theorem State.withMoments_moments (m : List Moment) : (s.withMoments m).moments = m := rfl
@[simp] theorem State.withMoments_pending (m : List Moment) : (s.withMoments m).pending = s.pending := rfl
@[simp] theorem State.withMoments_self : s.withMoments s.moments = s := rfl
@[simp] theorem State.withMoments_twice (m m' : List Moment) : (s.withMoments m).withMoments m' = s.withMoments m' := rfl

@[simp] theorem State.withPending_port (q : List Instr) : (s.withPending q).port = s.port := rfl
@[simp] theorem State.withPending_sched (q : List Instr) : (s.withPending q).sched = s.sched := rfl
@[simp] theorem State.withPending_roster (q : List Instr) : (s.withPending q).roster = s.roster := rfl
@[simp] theorem State.withPending_engine (q : List Instr) : (s.withPending q).engine = s.engine := rfl
@[simp] theorem State.withPending_batch (q : List Instr) : (s.withPending q).batch = s.batch := rfl
@[simp] theorem State.withPending_delivery (q : List Instr) : (s.withPending q).delivery = s.delivery := rfl
@[simp] theorem State.withPending_link (q : List Instr) : (s.withPending q).link = s.link := rfl
@[simp] theorem State.withPending_draws (q : List Instr) : (s.withPending q).draws = s.draws := rfl
@[simp] theorem State.withPending_moments (q : List Instr) : (s.withPending q).moments = s.moments := rfl
@[simp] theorem State.withPending_pending (q : List Instr) : (s.withPending q).pending = q := rfl
@[simp] theorem State.withPending_self : s.withPending s.pending = s := rfl
@[simp] theorem State.withPending_twice (q q' : List Instr) : (s.withPending q).withPending q' = s.withPending q' := rfl

/-! ### Operations that change one block -/

@[simp] theorem State.onDelivery_port (f : Delivery → Delivery) : (s.onDelivery f).port = s.port := rfl
@[simp] theorem State.onDelivery_sched (f : Delivery → Delivery) : (s.onDelivery f).sched = s.sched := rfl
@[simp] theorem State.onDelivery_roster (f : Delivery → Delivery) : (s.onDelivery f).roster = s.roster := rfl
@[simp] theorem State.onDelivery_engine (f : Delivery → Delivery) : (s.onDelivery f).engine = s.engine := rfl
@[simp] theorem State.onDelivery_batch (f : Delivery → Delivery) : (s.onDelivery f).batch = s.batch := rfl
@[simp] theorem State.onDelivery_link (f : Delivery → Delivery) : (s.onDelivery f).link = s.link := rfl
@[simp] theorem State.onDelivery_draws (f : Delivery → Delivery) : (s.onDelivery f).draws = s.draws := rfl
@[simp] theorem State.onDelivery_moments (f : Delivery → Delivery) : (s.onDelivery f).moments = s.moments := rfl
@[simp] theorem State.onDelivery_pending (f : Delivery → Delivery) : (s.onDelivery f).pending = s.pending := rfl

@[simp] theorem State.onDelivery_delivery (f : Delivery → Delivery) : (s.onDelivery f).delivery = f s.delivery := rfl

@[simp] theorem State.offerEvent_port (e : EventRecord) : (s.offerEvent e).port = s.port := rfl
@[simp] theorem State.offerEvent_sched (e : EventRecord) : (s.offerEvent e).sched = s.sched := rfl
@[simp] theorem State.offerEvent_roster (e : EventRecord) : (s.offerEvent e).roster = s.roster := rfl
@[simp] theorem State.offerEvent_engine (e : EventRecord) : (s.offerEvent e).engine = s.engine := rfl
@[simp] theorem State.offerEvent_batch (e : EventRecord) : (s.offerEvent e).batch = s.batch := rfl
@[simp] theorem State.offerEvent_link (e : EventRecord) : (s.offerEvent e).link = s.link := rfl
@[simp] theorem State.offerEvent_draws (e : EventRecord) : (s.offerEvent e).draws = s.draws := rfl
@[simp] theorem State.offerEvent_pending (e : EventRecord) : (s.offerEvent e).pending = s.pending := rfl

@[simp] theorem State.offerEvent_delivery (e : EventRecord) : (s.offerEvent e).delivery = s.delivery.offerEvent e := rfl

@[simp] theorem State.holdTag_port (t : Byte) : (s.holdTag t).port = s.port := rfl
@[simp] theorem State.holdTag_sched (t : Byte) : (s.holdTag t).sched = s.sched := rfl
@[simp] theorem State.holdTag_roster (t : Byte) : (s.holdTag t).roster = s.roster := rfl
@[simp] theorem State.holdTag_engine (t : Byte) : (s.holdTag t).engine = s.engine := rfl
@[simp] theorem State.holdTag_batch (t : Byte) : (s.holdTag t).batch = s.batch := rfl
@[simp] theorem State.holdTag_delivery (t : Byte) : (s.holdTag t).delivery = s.delivery := rfl
@[simp] theorem State.holdTag_draws (t : Byte) : (s.holdTag t).draws = s.draws := rfl
@[simp] theorem State.holdTag_pending (t : Byte) : (s.holdTag t).pending = s.pending := rfl

@[simp] theorem State.holdTag_tags (t : Byte) : (s.holdTag t).link.tags = s.link.tags ++ [t] := rfl

@[simp] theorem State.releaseTag_port (t : Byte) : (s.releaseTag t).port = s.port := rfl
@[simp] theorem State.releaseTag_sched (t : Byte) : (s.releaseTag t).sched = s.sched := rfl
@[simp] theorem State.releaseTag_roster (t : Byte) : (s.releaseTag t).roster = s.roster := rfl
@[simp] theorem State.releaseTag_engine (t : Byte) : (s.releaseTag t).engine = s.engine := rfl
@[simp] theorem State.releaseTag_batch (t : Byte) : (s.releaseTag t).batch = s.batch := rfl
@[simp] theorem State.releaseTag_delivery (t : Byte) : (s.releaseTag t).delivery = s.delivery := rfl
@[simp] theorem State.releaseTag_draws (t : Byte) : (s.releaseTag t).draws = s.draws := rfl
@[simp] theorem State.releaseTag_pending (t : Byte) : (s.releaseTag t).pending = s.pending := rfl

@[simp] theorem State.releaseTag_tags (t : Byte) : (s.releaseTag t).link.tags = s.link.tags.erase t := rfl

/-! ### Readings that depend on one block -/

theorem State.frame_eq : s.frame = s.port.frameNo := rfl
theorem State.cfg_eq : s.cfg = s.port.config.getD ConfigRecord.ifAbsent := rfl
theorem State.tagHeld_eq (t : Byte) : s.tagHeld t = s.link.tags.contains t := rfl

/-- The live circuits depend on the schedule block alone. -/
theorem State.circuit_congr {s t : State} (h : s.sched = t.sched) (id : CircuitId) : s.circuit id = t.circuit id := by
  simp [State.circuit, h]

/-- The table of live circuits depends on the schedule block alone. -/
theorem State.liveTable_congr {s t : State} (h : s.sched = t.sched) : s.liveTable = t.liveTable := by
  simp [State.liveTable, h]

/-- The buffers of circuits depend on the schedule block alone. -/
theorem State.circuitsHeld_congr {s t : State} (h : s.sched = t.sched) : s.circuitsHeld = t.circuitsHeld := by
  simp [State.circuitsHeld, State.liveTable_congr h]

end Sys2Proof.Machine
end

