-- ==== Sys2Proof/Laws/Tables.lean ====
section
/-! SUPPORT. The laws of tables: reading back what was written, leaving the other entries alone, and the sum of a measure
when one entry or every entry changes. -/

namespace Sys2Proof

variable {α β : Type} {n : Nat}

theorem Table.toList_injective {t u : Table α n} (h : t.toList = u.toList) : t = u := by
  cases t; cases u; simpa using h

/-- Entry `i` as an entry of the list. -/
theorem Table.getElem?_toList (t : Table α n) (i : Fin n) : t.toList[i.val]? = some (t.get i) := by
  have h : i.val < t.toList.length := by rw [t.size_eq]; exact i.isLt
  simp [Table.get, List.getElem?_eq_getElem h]

/-- Two tables with equal entries are equal. -/
theorem Table.ext_get {t u : Table α n} (h : ∀ i, t.get i = u.get i) : t = u := by
  apply Table.toList_injective
  apply List.ext_getElem?
  intro k
  by_cases hk : k < n
  · have a := t.getElem?_toList ⟨k, hk⟩
    have b := u.getElem?_toList ⟨k, hk⟩
    simp only at a b
    rw [a, b, h]
  · rw [List.getElem?_eq_none (by rw [t.size_eq]; omega), List.getElem?_eq_none (by rw [u.size_eq]; omega)]

@[simp] theorem Table.get_set_self (t : Table α n) (i : Fin n) (a : α) : (t.set i a).get i = a := by
  have h : i.val < t.toList.length := by rw [t.size_eq]; exact i.isLt
  have e := (t.set i a).getElem?_toList i
  rw [Table.set, List.getElem?_set_self h] at e
  exact (Option.some.inj e).symm

@[simp] theorem Table.get_set_ne (t : Table α n) {i j : Fin n} (a : α) (h : i ≠ j) : (t.set i a).get j = t.get j := by
  have hne : i.val ≠ j.val := fun e => h (Fin.ext e)
  have e := (t.set i a).getElem?_toList j
  rw [Table.set, List.getElem?_set_ne hne, t.getElem?_toList j] at e
  exact (Option.some.inj e).symm

/-- Entry `j` of a table with entry `i` replaced. -/
theorem Table.get_set (t : Table α n) (i j : Fin n) (a : α) : (t.set i a).get j = if i = j then a else t.get j := by
  by_cases h : i = j
  · subst h; simp
  · simp [h]

@[simp] theorem Table.get_map (t : Table α n) (f : α → β) (i : Fin n) : (t.map f).get i = f (t.get i) := by
  have e := (t.map f).getElem?_toList i
  rw [Table.map, List.getElem?_map, t.getElem?_toList i] at e
  exact (Option.some.inj e).symm

@[simp] theorem Table.get_replicate (a : α) (i : Fin n) : (Table.replicate n a).get i = a := by
  simp [Table.get, Table.replicate]

@[simp] theorem Table.get_ofFn (f : Fin n → α) (i : Fin n) : (Table.ofFn f).get i = f i := by
  have e := (Table.ofFn f).getElem?_toList i
  simp only [Table.ofFn, List.getElem?_ofFn, i.isLt, dif_pos] at e
  exact (Option.some.inj e).symm

@[simp] theorem Table.set_get_self (t : Table α n) (i : Fin n) : t.set i (t.get i) = t := by
  apply Table.ext_get
  intro j
  rw [Table.get_set]
  split
  · next h => rw [h]
  · rfl

@[simp] theorem Table.map_id (t : Table α n) : t.map id = t := Table.ext_get fun i => by simp

/-- The sum after one entry changed: the old entry's measure leaves, the new one's enters. -/
theorem Table.sum_set (t : Table α n) (i : Fin n) (a : α) (f : α → Nat) :
    (t.set i a).sum f + f (t.get i) = t.sum f + f a := by
  have key : ∀ (l : List α) (k : Nat) (h : k < l.length),
      ((l.set k a).map f).sum + f (l.get ⟨k, h⟩) = (l.map f).sum + f a := by
    intro l
    induction l with
    | nil => intro k h; simp at h
    | cons x xs ih =>
      intro k h
      cases k with
      | zero => simp; omega
      | succ k =>
        have := ih k (by simpa using h)
        simp at this ⊢
        omega
  exact key t.toList i.val (by rw [t.size_eq]; exact i.isLt)

/-- An entry's measure is part of the sum. -/
theorem Table.le_sum (t : Table α n) (i : Fin n) (f : α → Nat) : f (t.get i) ≤ t.sum f := by
  have key : ∀ (l : List α) (k : Nat) (h : k < l.length), f (l.get ⟨k, h⟩) ≤ (l.map f).sum := by
    intro l
    induction l with
    | nil => intro k h; simp at h
    | cons x xs ih =>
      intro k h
      cases k with
      | zero => simp
      | succ k =>
        have := ih k (by simpa using h)
        simp at this ⊢
        omega
  exact key t.toList i.val (by rw [t.size_eq]; exact i.isLt)

/-- The sum of a mapped table is the sum of the composed measure. -/
theorem Table.sum_map (t : Table α n) (g : α → β) (f : β → Nat) : (t.map g).sum f = t.sum (f ∘ g) := by
  simp [Table.sum, Table.map]

@[simp] theorem Table.sum_replicate (a : α) (f : α → Nat) : (Table.replicate n a).sum f = n * f a := by
  simp [Table.sum, Table.replicate]

/-- A sum is at most another where every entry's measure is. -/
theorem Table.sum_le_sum (t u : Table α n) (f : α → Nat) (h : ∀ i, f (t.get i) ≤ f (u.get i)) :
    t.sum f ≤ u.sum f := by
  have key : ∀ (l m : List α), l.length = m.length →
      (∀ k (hk : k < l.length) (hk' : k < m.length), f (l.get ⟨k, hk⟩) ≤ f (m.get ⟨k, hk'⟩)) →
      (l.map f).sum ≤ (m.map f).sum := by
    intro l
    induction l with
    | nil => intro m hm _; cases m <;> simp_all
    | cons x xs ih =>
      intro m hm h
      cases m with
      | nil => simp at hm
      | cons y ys =>
        have h0 := h 0 (by simp) (by simp)
        have ht := ih ys (by simpa using hm) fun k hk hk' => h (k + 1) (by simpa using hk) (by simpa using hk')
        simp at h0 ht ⊢
        omega
  exact key t.toList u.toList (by rw [t.size_eq, u.size_eq]) fun k hk _ => h ⟨k, by rw [← t.size_eq]; exact hk⟩

end Sys2Proof
end

