-- ==== Sys2Proof/Laws/Circuits.lean ====
section
/-! SUPPORT. The operations that replace a live circuit or all of them: what each id then reads, and how many buffers
circuits hold then. -/

namespace Sys2Proof.Machine

variable (s : State)

/-- An id reads its entry of the table of live circuits. -/
theorem State.circuit_eq_liveTable (id : CircuitId) : s.circuit id = s.liveTable.get id := by
  unfold State.circuit State.liveTable
  cases s.sched.live <;> simp

/-- A live circuit exists only in a live schedule. -/
theorem State.live_isSome_of_circuit {id : CircuitId} {c : LiveCircuit} (h : s.circuit id = some c) :
    s.sched.live.isSome = true := by
  unfold State.circuit at h
  cases hl : s.sched.live <;> simp_all

/-- The table after a replacement of all live circuits, in a live schedule. -/
theorem State.liveTable_setLiveTable (t : Table (Option LiveCircuit) 32) (h : s.sched.live.isSome = true) :
    (s.setLiveTable t).liveTable = t := by
  unfold State.setLiveTable State.liveTable
  cases hl : s.sched.live <;> simp_all

@[simp] theorem State.setLiveTable_delivery (t : Table (Option LiveCircuit) 32) :
    (s.setLiveTable t).delivery = s.delivery := by
  unfold State.setLiveTable; cases s.sched.live <;> rfl
@[simp] theorem State.setLiveTable_port (t : Table (Option LiveCircuit) 32) : (s.setLiveTable t).port = s.port := by
  unfold State.setLiveTable; cases s.sched.live <;> rfl
@[simp] theorem State.setLiveTable_roster (t : Table (Option LiveCircuit) 32) :
    (s.setLiveTable t).roster = s.roster := by
  unfold State.setLiveTable; cases s.sched.live <;> rfl
@[simp] theorem State.setLiveTable_engine (t : Table (Option LiveCircuit) 32) :
    (s.setLiveTable t).engine = s.engine := by
  unfold State.setLiveTable; cases s.sched.live <;> rfl
@[simp] theorem State.setLiveTable_batch (t : Table (Option LiveCircuit) 32) :
    (s.setLiveTable t).batch = s.batch := by
  unfold State.setLiveTable; cases s.sched.live <;> rfl
@[simp] theorem State.setLiveTable_link (t : Table (Option LiveCircuit) 32) : (s.setLiveTable t).link = s.link := by
  unfold State.setLiveTable; cases s.sched.live <;> rfl
@[simp] theorem State.setLiveTable_draws (t : Table (Option LiveCircuit) 32) :
    (s.setLiveTable t).draws = s.draws := by
  unfold State.setLiveTable; cases s.sched.live <;> rfl
@[simp] theorem State.setLiveTable_moments (t : Table (Option LiveCircuit) 32) :
    (s.setLiveTable t).moments = s.moments := by
  unfold State.setLiveTable; cases s.sched.live <;> rfl
@[simp] theorem State.setLiveTable_pending (t : Table (Option LiveCircuit) 32) :
    (s.setLiveTable t).pending = s.pending := by
  unfold State.setLiveTable; cases s.sched.live <;> rfl

/-! ### One circuit replaced -/

@[simp] theorem State.setCircuit_delivery (id : CircuitId) (c : LiveCircuit) :
    (s.setCircuit id c).delivery = s.delivery := by simp [State.setCircuit]
@[simp] theorem State.setCircuit_port (id : CircuitId) (c : LiveCircuit) : (s.setCircuit id c).port = s.port := by
  simp [State.setCircuit]
@[simp] theorem State.setCircuit_roster (id : CircuitId) (c : LiveCircuit) :
    (s.setCircuit id c).roster = s.roster := by simp [State.setCircuit]
@[simp] theorem State.setCircuit_engine (id : CircuitId) (c : LiveCircuit) :
    (s.setCircuit id c).engine = s.engine := by simp [State.setCircuit]
@[simp] theorem State.setCircuit_batch (id : CircuitId) (c : LiveCircuit) :
    (s.setCircuit id c).batch = s.batch := by simp [State.setCircuit]
@[simp] theorem State.setCircuit_link (id : CircuitId) (c : LiveCircuit) : (s.setCircuit id c).link = s.link := by
  simp [State.setCircuit]
@[simp] theorem State.setCircuit_draws (id : CircuitId) (c : LiveCircuit) :
    (s.setCircuit id c).draws = s.draws := by simp [State.setCircuit]
@[simp] theorem State.setCircuit_moments (id : CircuitId) (c : LiveCircuit) :
    (s.setCircuit id c).moments = s.moments := by simp [State.setCircuit]
@[simp] theorem State.setCircuit_pending (id : CircuitId) (c : LiveCircuit) :
    (s.setCircuit id c).pending = s.pending := by simp [State.setCircuit]

/-- The replaced circuit reads as the new one and every other id as before. -/
theorem State.circuit_setCircuit {id : CircuitId} {c₀ : LiveCircuit} (h : s.circuit id = some c₀) (c : LiveCircuit)
    (j : CircuitId) : (s.setCircuit id c).circuit j = if id = j then some c else s.circuit j := by
  rw [State.circuit_eq_liveTable, State.setCircuit, s.liveTable_setLiveTable _ (s.live_isSome_of_circuit h),
    Table.get_set, State.circuit_eq_liveTable]

/-- Buffers held after one circuit was replaced. -/
theorem State.circuitsHeld_setCircuit {id : CircuitId} {c₀ : LiveCircuit} (h : s.circuit id = some c₀)
    (c : LiveCircuit) : (s.setCircuit id c).circuitsHeld + c₀.run.held = s.circuitsHeld + c.run.held := by
  have hs := s.liveTable.sum_set id (some c) heldBy
  rw [← State.circuit_eq_liveTable, h] at hs
  rw [State.circuitsHeld, State.setCircuit, s.liveTable_setLiveTable _ (s.live_isSome_of_circuit h)]
  exact hs

/-- What `rehold` does: the circuit is replaced, the free count takes the difference, nothing else changes. -/
theorem State.rehold_eq (id : CircuitId) (c : LiveCircuit) :
    s.rehold id c = (s.withDelivery
      { s.delivery with free := s.delivery.free + heldBy (s.circuit id) - c.run.held }).setCircuit id c := rfl

/-- `rehold` exchanges buffers with the pool: free and held by circuits number as many as before, where the pool has
the buffers that the circuit newly holds (R135, R136). -/
theorem State.rehold_balance {id : CircuitId} {c₀ : LiveCircuit} (h : s.circuit id = some c₀) (c : LiveCircuit)
    (room : c.run.held ≤ s.delivery.free + c₀.run.held) :
    (s.rehold id c).delivery.free + (s.rehold id c).circuitsHeld = s.delivery.free + s.circuitsHeld := by
  generalize hu : (s.onDelivery fun d => { d with free := d.free + heldBy (s.circuit id) - c.run.held }) = u
  have hc : u.circuit id = some c₀ := by rw [← h, ← hu]; exact State.circuit_congr rfl id
  have hheld : u.circuitsHeld = s.circuitsHeld := by rw [← hu]; exact State.circuitsHeld_congr rfl
  have hfree : u.delivery.free = s.delivery.free + c₀.run.held - c.run.held := by rw [← hu, h]; rfl
  have hb := u.circuitsHeld_setCircuit hc c
  have he : s.rehold id c = u.setCircuit id c := by rw [← hu]; rfl
  rw [he, State.setCircuit_delivery, hfree]
  omega

/-- `rehold` reads back the new circuit and every other id as before. -/
theorem State.circuit_rehold {id : CircuitId} {c₀ : LiveCircuit} (h : s.circuit id = some c₀) (c : LiveCircuit)
    (j : CircuitId) : (s.rehold id c).circuit j = if id = j then some c else s.circuit j := by
  rw [State.rehold_eq, State.circuit_setCircuit _ (c₀ := c₀) (by rw [← h]; exact State.circuit_congr rfl id)]
  congr 1

@[simp] theorem State.rehold_port (id : CircuitId) (c : LiveCircuit) : (s.rehold id c).port = s.port := by
  simp [State.rehold]
@[simp] theorem State.rehold_roster (id : CircuitId) (c : LiveCircuit) : (s.rehold id c).roster = s.roster := by
  simp [State.rehold]
@[simp] theorem State.rehold_engine (id : CircuitId) (c : LiveCircuit) : (s.rehold id c).engine = s.engine := by
  simp [State.rehold]
@[simp] theorem State.rehold_batch (id : CircuitId) (c : LiveCircuit) : (s.rehold id c).batch = s.batch := by
  simp [State.rehold]
@[simp] theorem State.rehold_link (id : CircuitId) (c : LiveCircuit) : (s.rehold id c).link = s.link := by
  simp [State.rehold]
@[simp] theorem State.rehold_draws (id : CircuitId) (c : LiveCircuit) : (s.rehold id c).draws = s.draws := by
  simp [State.rehold]
@[simp] theorem State.rehold_moments (id : CircuitId) (c : LiveCircuit) : (s.rehold id c).moments = s.moments := by
  simp [State.rehold]
@[simp] theorem State.rehold_pending (id : CircuitId) (c : LiveCircuit) : (s.rehold id c).pending = s.pending := by
  simp [State.rehold]
@[simp] theorem State.rehold_records (id : CircuitId) (c : LiveCircuit) :
    (s.rehold id c).delivery.records = s.delivery.records := by simp [State.rehold]

/-! ### Every circuit passed through a function -/

/-- Every id reads its circuit passed through the function. -/
theorem State.circuit_mapLive (f : LiveCircuit → LiveCircuit) (j : CircuitId) :
    (s.mapLive f).circuit j = (s.circuit j).map f := by
  cases hl : s.sched.live with
  | none => simp [State.circuit, State.mapLive, State.setLiveTable, hl]
  | some l =>
    have hs : (s.onDelivery (Delivery.giveBack (s.liveTable.sum heldBy - (s.liveTable.map (Option.map f)).sum heldBy)
        )).sched.live.isSome = true := by simp [hl]
    rw [State.circuit_eq_liveTable, State.mapLive, State.liveTable_setLiveTable _ _ hs, Table.get_map,
      ← State.circuit_eq_liveTable]

/-- A function that lets no circuit hold more gives the difference back to the pool (R136). -/
theorem State.mapLive_balance (f : LiveCircuit → LiveCircuit) (h : ∀ c, (f c).run.held ≤ c.run.held) :
    (s.mapLive f).delivery.free + (s.mapLive f).circuitsHeld = s.delivery.free + s.circuitsHeld := by
  have hle : (s.liveTable.map (Option.map f)).sum heldBy ≤ s.liveTable.sum heldBy := by
    apply Table.sum_le_sum
    intro i
    rw [Table.get_map]
    cases s.liveTable.get i with
    | none => exact Nat.le_refl _
    | some c => exact h c
  cases hl : s.sched.live with
  | none =>
    have ht : s.liveTable = Table.replicate 32 none := by simp [State.liveTable, hl]
    have hz : s.liveTable.sum heldBy = 0 := by rw [ht]; simp [heldBy]
    simp [State.mapLive, State.setLiveTable, hl, hz, Delivery.giveBack]
    exact State.circuitsHeld_congr rfl
  | some l =>
    have hs : (s.onDelivery (Delivery.giveBack (s.liveTable.sum heldBy - (s.liveTable.map (Option.map f)).sum heldBy)
        )).sched.live.isSome = true := by simp [hl]
    have ht : (s.mapLive f).liveTable = s.liveTable.map (Option.map f) := State.liveTable_setLiveTable _ _ hs
    have hf : (s.mapLive f).delivery.free
        = s.delivery.free + (s.liveTable.sum heldBy - (s.liveTable.map (Option.map f)).sum heldBy) := by
      simp [State.mapLive, Delivery.giveBack]
    rw [hf, State.circuitsHeld, ht, State.circuitsHeld]
    omega

@[simp] theorem State.mapLive_port (f : LiveCircuit → LiveCircuit) : (s.mapLive f).port = s.port := by
  simp [State.mapLive]
@[simp] theorem State.mapLive_roster (f : LiveCircuit → LiveCircuit) : (s.mapLive f).roster = s.roster := by
  simp [State.mapLive]
@[simp] theorem State.mapLive_engine (f : LiveCircuit → LiveCircuit) : (s.mapLive f).engine = s.engine := by
  simp [State.mapLive]
@[simp] theorem State.mapLive_batch (f : LiveCircuit → LiveCircuit) : (s.mapLive f).batch = s.batch := by
  simp [State.mapLive]
@[simp] theorem State.mapLive_link (f : LiveCircuit → LiveCircuit) : (s.mapLive f).link = s.link := by
  simp [State.mapLive]
@[simp] theorem State.mapLive_draws (f : LiveCircuit → LiveCircuit) : (s.mapLive f).draws = s.draws := by
  simp [State.mapLive]
@[simp] theorem State.mapLive_moments (f : LiveCircuit → LiveCircuit) : (s.mapLive f).moments = s.moments := by
  simp [State.mapLive]
@[simp] theorem State.mapLive_pending (f : LiveCircuit → LiveCircuit) : (s.mapLive f).pending = s.pending := by
  simp [State.mapLive]
@[simp] theorem State.mapLive_records (f : LiveCircuit → LiveCircuit) :
    (s.mapLive f).delivery.records = s.delivery.records := by simp [State.mapLive, Delivery.giveBack]

/-! ### What the changes of run state do to a circuit's buffers (R52, R53, R70) -/

theorem LiveCircuit.abandon_held_le (c : LiveCircuit) : c.abandon.run.held ≤ c.run.held := by
  simp [LiveCircuit.abandon, CircuitRun.held, CircuitRun.queueHeld, CircuitRun.dropIf]; omega

theorem LiveCircuit.follow_held_le (fit : Bool) (c : LiveCircuit) : (c.follow fit).run.held ≤ c.run.held := by
  unfold LiveCircuit.follow
  split
  · exact c.abandon_held_le
  · exact Nat.le_refl _
  · exact Nat.le_refl _
  · exact Nat.le_refl _

/-- After `follow` a circuit is RUNNING exactly when its station is fit (R51). -/
theorem LiveCircuit.follow_runState (fit : Bool) (c : LiveCircuit) :
    (c.follow fit).run.runState = if fit then .running else .stalled := by
  unfold LiveCircuit.follow
  split <;> simp_all [LiveCircuit.stall, LiveCircuit.resume]

@[simp] theorem LiveCircuit.abandon_defn (c : LiveCircuit) : c.abandon.defn = c.defn := rfl

@[simp] theorem LiveCircuit.follow_defn (fit : Bool) (c : LiveCircuit) : (c.follow fit).defn = c.defn := by
  unfold LiveCircuit.follow
  split <;> rfl

/-- A stall leaves no unit in flight and no assembly (R53, R54). -/
theorem LiveCircuit.stall_empty (c : LiveCircuit) : c.stall.run.flight = none ∧ c.stall.run.assembly = none := ⟨rfl, rfl⟩

/-- A change of run state and an abandonment keep the queue (R52, R53, R70). -/
theorem LiveCircuit.follow_queue (fit : Bool) (c : LiveCircuit) : (c.follow fit).run.queue = c.run.queue := by
  unfold LiveCircuit.follow
  split <;> rfl

end Sys2Proof.Machine
end

