-- ==== Sys2Proof/Laws/Delivery.lean ====
section
/-! SUPPORT. What each operation on the pool and the delivery queue does, said once: the record list, the free count,
the occupancy, the reservations and the counters after it. -/

namespace Sys2Proof.Machine

variable (d : Delivery)

/-- Reservations held (R138). -/
theorem Delivery.occupancy_eq : d.occupancy = d.records.length + d.hostRes + d.batchRes.toNat := rfl

theorem Delivery.hasRoom_iff : d.hasRoom = true ↔ d.occupancy < 128 :=
  decide_eq_true_iff

theorem Delivery.belowHighMark_iff : d.belowHighMark = true ↔ d.occupancy < 96 :=
  decide_eq_true_iff

theorem Delivery.outboundClaim_iff (w : Nat) : d.outboundClaim w = true ↔ w + 64 ≤ d.free :=
  decide_eq_true_iff

theorem Delivery.inboundClaim_iff (w : Nat) : d.inboundClaim w = true ↔ w ≤ d.free :=
  decide_eq_true_iff

/-! ### A record at the tail -/

variable (r : DeliveryRecord)

@[simp] theorem Delivery.append_records : (d.append r).records = d.records ++ [r] := rfl
@[simp] theorem Delivery.append_free : (d.append r).free = d.free := rfl
@[simp] theorem Delivery.append_hostRes : (d.append r).hostRes = d.hostRes := rfl
@[simp] theorem Delivery.append_batchRes : (d.append r).batchRes = d.batchRes := rfl
@[simp] theorem Delivery.append_folded : (d.append r).folded = d.folded := rfl
@[simp] theorem Delivery.append_credits : (d.append r).credits = d.credits := rfl

@[simp] theorem Delivery.append_held : (d.append r).held = d.held + r.held := by
  simp [Delivery.held]

@[simp] theorem Delivery.append_occupancy : (d.append r).occupancy = d.occupancy + 1 := by
  simp [Delivery.occupancy]; omega

/-! ### An event (R141) -/

/-- An offered event is appended below occupancy 128 and folded at 128; nothing else changes. -/
theorem Delivery.offerEvent_cases (e : EventRecord) :
    (d.occupancy < 128 ∧ d.offerEvent e = d.append (.event e)) ∨
      (128 ≤ d.occupancy ∧ d.offerEvent e = { d with folded := d.folded.bump e }) := by
  by_cases h : d.occupancy < 128
  · left; simp [Delivery.offerEvent, h, (d.hasRoom_iff).mpr h]
  · right
    have : d.hasRoom = false := by simpa using fun hr => h (d.hasRoom_iff.mp hr)
    exact ⟨Nat.le_of_not_lt h, by simp [Delivery.offerEvent, this]⟩

@[simp] theorem Delivery.offerEvent_free (e : EventRecord) : (d.offerEvent e).free = d.free := by
  rcases d.offerEvent_cases e with ⟨_, h⟩ | ⟨_, h⟩ <;> simp [h]
@[simp] theorem Delivery.offerEvent_hostRes (e : EventRecord) : (d.offerEvent e).hostRes = d.hostRes := by
  rcases d.offerEvent_cases e with ⟨_, h⟩ | ⟨_, h⟩ <;> simp [h]
@[simp] theorem Delivery.offerEvent_batchRes (e : EventRecord) : (d.offerEvent e).batchRes = d.batchRes := by
  rcases d.offerEvent_cases e with ⟨_, h⟩ | ⟨_, h⟩ <;> simp [h]
@[simp] theorem Delivery.offerEvent_credits (e : EventRecord) : (d.offerEvent e).credits = d.credits := by
  rcases d.offerEvent_cases e with ⟨_, h⟩ | ⟨_, h⟩ <;> simp [h]
@[simp] theorem Delivery.offerEvent_held (e : EventRecord) : (d.offerEvent e).held = d.held := by
  rcases d.offerEvent_cases e with ⟨_, h⟩ | ⟨_, h⟩ <;> simp [h, DeliveryRecord.held, Delivery.held]

/-- An offered event never takes the occupancy above 128 (R142). -/
theorem Delivery.offerEvent_occupancy_le (e : EventRecord) (h : d.occupancy ≤ 128) : (d.offerEvent e).occupancy ≤ 128 := by
  rcases d.offerEvent_cases e with ⟨ho, he⟩ | ⟨_, he⟩
  · rw [he, Delivery.append_occupancy]; omega
  · rw [he]; simpa [Delivery.occupancy] using h

/-- An offered event leaves the records that stand in place. -/
theorem Delivery.offerEvent_prefix (e : EventRecord) : d.records <+: (d.offerEvent e).records := by
  rcases d.offerEvent_cases e with ⟨_, h⟩ | ⟨_, h⟩ <;> simp [h]

/-! ### Reservations and the records that take their place (R139) -/

@[simp] theorem Delivery.reserveHost_occupancy : d.reserveHost.occupancy = d.occupancy + 1 := by
  simp [Delivery.occupancy, Delivery.reserveHost]; omega

/-- A DONE record takes the place of a reservation: the occupancy is unchanged. -/
theorem Delivery.appendDone_occupancy (tag : Byte) (o : TxnOutcome) (reason : Byte) (data : List Byte)
    (h : 1 ≤ d.hostRes) : (d.appendDone tag o reason data).occupancy = d.occupancy := by
  simp [Delivery.appendDone, Delivery.occupancy]; omega

@[simp] theorem Delivery.appendDone_records (tag : Byte) (o : TxnOutcome) (reason : Byte) (data : List Byte) :
    (d.appendDone tag o reason data).records = d.records ++ [.done tag o reason data] := rfl
@[simp] theorem Delivery.appendDone_hostRes (tag : Byte) (o : TxnOutcome) (reason : Byte) (data : List Byte) :
    (d.appendDone tag o reason data).hostRes = d.hostRes - 1 := rfl
@[simp] theorem Delivery.appendDone_batchRes (tag : Byte) (o : TxnOutcome) (reason : Byte) (data : List Byte) :
    (d.appendDone tag o reason data).batchRes = d.batchRes := rfl
@[simp] theorem Delivery.appendDone_free (tag : Byte) (o : TxnOutcome) (reason : Byte) (data : List Byte) :
    (d.appendDone tag o reason data).free = d.free := rfl
@[simp] theorem Delivery.appendDone_folded (tag : Byte) (o : TxnOutcome) (reason : Byte) (data : List Byte) :
    (d.appendDone tag o reason data).folded = d.folded := rfl
@[simp] theorem Delivery.appendDone_credits (tag : Byte) (o : TxnOutcome) (reason : Byte) (data : List Byte) :
    (d.appendDone tag o reason data).credits = d.credits := rfl
@[simp] theorem Delivery.appendDone_held (tag : Byte) (o : TxnOutcome) (reason : Byte) (data : List Byte) :
    (d.appendDone tag o reason data).held = d.held := by
  simp [Delivery.appendDone, DeliveryRecord.held, Delivery.held]

/-- A PASS record takes the place of the batch reservation: the occupancy is unchanged. -/
theorem Delivery.appendPass_occupancy (tag : Byte) (pass : Nat) (final : Bool) (cause : EndCause)
    (outcomes : List ItemOutcome) (h : d.batchRes = true) :
    (d.appendPass tag pass final cause outcomes).occupancy = d.occupancy := by
  simp [Delivery.appendPass, Delivery.occupancy, h]; omega

@[simp] theorem Delivery.appendPass_records (tag : Byte) (pass : Nat) (final : Bool) (cause : EndCause)
    (outcomes : List ItemOutcome) :
    (d.appendPass tag pass final cause outcomes).records = d.records ++ [.pass tag pass final cause outcomes] := rfl
@[simp] theorem Delivery.appendPass_batchRes (tag : Byte) (pass : Nat) (final : Bool) (cause : EndCause)
    (outcomes : List ItemOutcome) : (d.appendPass tag pass final cause outcomes).batchRes = false := rfl
@[simp] theorem Delivery.appendPass_hostRes (tag : Byte) (pass : Nat) (final : Bool) (cause : EndCause)
    (outcomes : List ItemOutcome) : (d.appendPass tag pass final cause outcomes).hostRes = d.hostRes := rfl
@[simp] theorem Delivery.appendPass_free (tag : Byte) (pass : Nat) (final : Bool) (cause : EndCause)
    (outcomes : List ItemOutcome) : (d.appendPass tag pass final cause outcomes).free = d.free := rfl
@[simp] theorem Delivery.appendPass_credits (tag : Byte) (pass : Nat) (final : Bool) (cause : EndCause)
    (outcomes : List ItemOutcome) : (d.appendPass tag pass final cause outcomes).credits = d.credits := rfl
@[simp] theorem Delivery.appendPass_held (tag : Byte) (pass : Nat) (final : Bool) (cause : EndCause)
    (outcomes : List ItemOutcome) : (d.appendPass tag pass final cause outcomes).held = d.held := by
  simp [Delivery.appendPass, DeliveryRecord.held, Delivery.held]

/-! ### Removal (R144, R145) -/

/-- A removal takes the head record and gives its buffers back; buffers free and held by records are as many as before. -/
theorem Delivery.removeHead_balance : d.removeHead.free + d.removeHead.held = d.free + d.held := by
  cases h : d.records with
  | nil => simp [Delivery.removeHead, h]
  | cons r rest => simp [Delivery.removeHead, h, Delivery.held]; omega

@[simp] theorem Delivery.removeHead_records : d.removeHead.records = d.records.tail := by
  cases h : d.records <;> simp [Delivery.removeHead, h]
@[simp] theorem Delivery.removeHead_hostRes : d.removeHead.hostRes = d.hostRes := by
  cases h : d.records <;> simp [Delivery.removeHead, h]
@[simp] theorem Delivery.removeHead_batchRes : d.removeHead.batchRes = d.batchRes := by
  cases h : d.records <;> simp [Delivery.removeHead, h]
@[simp] theorem Delivery.removeHead_folded : d.removeHead.folded = d.folded := by
  cases h : d.records <;> simp [Delivery.removeHead, h]
@[simp] theorem Delivery.removeHead_credits : d.removeHead.credits = d.credits := by
  cases h : d.records <;> simp [Delivery.removeHead, h]

/-- The freed place takes an OVERFLOW record exactly when a folded count is above 0 (R145). -/
theorem Delivery.offerOverflow_cases :
    (d.folded = Folded.zero ∧ d.offerOverflow = d) ∨
      (d.folded ≠ Folded.zero ∧
        d.offerOverflow = { d with folded := Folded.zero, records := d.records ++ [.overflow d.folded] }) := by
  by_cases h : d.folded = Folded.zero
  · exact .inl ⟨h, by simp [Delivery.offerOverflow, h]⟩
  · exact .inr ⟨h, by simp [Delivery.offerOverflow, h, Delivery.append]⟩

/-! ### Credits (R143, R146) -/

@[simp] theorem Delivery.addCredits_credits (n : Nat) : (d.addCredits n).credits = min 255 (d.credits + n) := rfl
@[simp] theorem Delivery.addCredits_records (n : Nat) : (d.addCredits n).records = d.records := rfl
@[simp] theorem Delivery.addCredits_free (n : Nat) : (d.addCredits n).free = d.free := rfl
@[simp] theorem Delivery.addCredits_hostRes (n : Nat) : (d.addCredits n).hostRes = d.hostRes := rfl
@[simp] theorem Delivery.addCredits_batchRes (n : Nat) : (d.addCredits n).batchRes = d.batchRes := rfl
@[simp] theorem Delivery.addCredits_held (n : Nat) : (d.addCredits n).held = d.held := rfl
@[simp] theorem Delivery.spendCredit_credits : d.spendCredit.credits = d.credits - 1 := rfl
@[simp] theorem Delivery.spendCredit_records : d.spendCredit.records = d.records := rfl
@[simp] theorem Delivery.spendCredit_free : d.spendCredit.free = d.free := rfl
@[simp] theorem Delivery.spendCredit_hostRes : d.spendCredit.hostRes = d.hostRes := rfl
@[simp] theorem Delivery.spendCredit_batchRes : d.spendCredit.batchRes = d.batchRes := rfl
@[simp] theorem Delivery.spendCredit_held : d.spendCredit.held = d.held := rfl

/-! ### Saturating counters -/

/-- A saturating counter never falls. -/
theorem satInc_le (c : Half) : c.toNat ≤ (satInc c).toNat := by
  unfold satInc
  split
  · exact Nat.le_refl _
  · next h => bv_omega

/-- A saturating counter goes up by exactly 1 below 65 535. -/
theorem satInc_toNat (c : Half) (h : c ≠ 0xFFFF) : (satInc c).toNat = c.toNat + 1 := by
  simp only [satInc, if_neg h]; bv_omega

end Sys2Proof.Machine
end

