-- ==== Sys2Proof/Laws/PerInstr.lean ====
section
/-! SUPPORT. The family of statements about each command as syntax: what its frame is (R152, R165), one lemma per
constructor. -/

namespace Sys2Proof.Laws.RequestFraming

/-- The frame of a well-formed command, where it has one, carries a KIND that names this very row, and a payload that
fits a frame (R152, R156, R165). -/
def Statement (i : Instr) : Prop :=
  i.wellFormed = true → ∀ kind tag payload, requestParts i = some (kind, tag, payload) →
    requestOfKind kind tag payload = i ∧ payload.length ≤ 252

/-- A request row is named by its own KIND. -/
theorem of_named {i : Instr} {k t : Byte} {p : List Byte} (hp : requestParts i = some (k, t, p))
    (hk : requestOfKind k t p = i) (hw : i.wellFormed = payloadFits p) : Statement i := by
  intro w kind tag payload h
  rw [hp, Option.some.injEq, Prod.mk.injEq, Prod.mk.injEq] at h
  obtain ⟨rfl, rfl, rfl⟩ := h
  rw [hw] at w
  exact ⟨hk, decide_eq_true_iff.mp w⟩

/-- A row that is no good frame has no frame to speak of. -/
theorem of_frameless {i : Instr} (hp : requestParts i = none) : Statement i := by
  intro _ kind tag payload h
  rw [hp] at h
  exact absurd h (by simp)

/-- A KIND that is no request code names UNKNOWN_KIND (R156). -/
theorem requestOfKind_unknown (kind tag : Byte) (payload : List Byte) (h : requestKinds.contains kind = false) :
    requestOfKind kind tag payload = .unknownKind kind tag payload := by
  have back : kind = BitVec.ofNat 8 kind.toNat := by simp
  unfold requestOfKind
  split <;> first
    | rfl
    | (rename_i e
       rw [e] at back
       rw [back] at h
       exact absurd h (by decide))

theorem hello (tag : Byte) (payload : List Byte) : Statement (.hello tag payload) := of_named rfl rfl rfl
theorem status (tag : Byte) (payload : List Byte) : Statement (.status tag payload) := of_named rfl rfl rfl
theorem restart (tag : Byte) (payload : List Byte) : Statement (.restart tag payload) := of_named rfl rfl rfl
theorem credit (tag : Byte) (payload : List Byte) : Statement (.credit tag payload) := of_named rfl rfl rfl
theorem configure (tag : Byte) (payload : List Byte) : Statement (.configure tag payload) := of_named rfl rfl rfl
theorem start (tag : Byte) (payload : List Byte) : Statement (.start tag payload) := of_named rfl rfl rfl
theorem stop (tag : Byte) (payload : List Byte) : Statement (.stop tag payload) := of_named rfl rfl rfl
theorem defineCircuit (tag : Byte) (payload : List Byte) : Statement (.defineCircuit tag payload) := of_named rfl rfl rfl
theorem dropCircuit (tag : Byte) (payload : List Byte) : Statement (.dropCircuit tag payload) := of_named rfl rfl rfl
theorem setOpen (tag : Byte) (payload : List Byte) : Statement (.setOpen tag payload) := of_named rfl rfl rfl
theorem adopt (tag : Byte) (payload : List Byte) : Statement (.adopt tag payload) := of_named rfl rfl rfl
theorem revert (tag : Byte) (payload : List Byte) : Statement (.revert tag payload) := of_named rfl rfl rfl
theorem put (tag : Byte) (payload : List Byte) : Statement (.put tag payload) := of_named rfl rfl rfl
theorem purge (tag : Byte) (payload : List Byte) : Statement (.purge tag payload) := of_named rfl rfl rfl
theorem readCircuit (tag : Byte) (payload : List Byte) : Statement (.readCircuit tag payload) := of_named rfl rfl rfl
theorem admitStation (tag : Byte) (payload : List Byte) : Statement (.admitStation tag payload) := of_named rfl rfl rfl
theorem excludeStation (tag : Byte) (payload : List Byte) : Statement (.excludeStation tag payload) := of_named rfl rfl rfl
theorem releaseStation (tag : Byte) (payload : List Byte) : Statement (.releaseStation tag payload) := of_named rfl rfl rfl
theorem queryStation (tag : Byte) (payload : List Byte) : Statement (.queryStation tag payload) := of_named rfl rfl rfl
theorem transact (tag : Byte) (payload : List Byte) : Statement (.transact tag payload) := of_named rfl rfl rfl
theorem cancel (tag : Byte) (payload : List Byte) : Statement (.cancel tag payload) := of_named rfl rfl rfl
theorem batchLoad (tag : Byte) (payload : List Byte) : Statement (.batchLoad tag payload) := of_named rfl rfl rfl
theorem batchPreset (tag : Byte) (payload : List Byte) : Statement (.batchPreset tag payload) := of_named rfl rfl rfl
theorem batchRun (tag : Byte) (payload : List Byte) : Statement (.batchRun tag payload) := of_named rfl rfl rfl
theorem batchAbort (tag : Byte) (payload : List Byte) : Statement (.batchAbort tag payload) := of_named rfl rfl rfl
theorem unknownKind (kind tag : Byte) (payload : List Byte) : Statement (.unknownKind kind tag payload) := by
  intro w k t p h
  rw [requestParts, Option.some.injEq, Prod.mk.injEq, Prod.mk.injEq] at h
  obtain ⟨rfl, rfl, rfl⟩ := h
  simp only [Instr.wellFormed, Bool.and_eq_true, Bool.not_eq_true'] at w
  exact ⟨requestOfKind_unknown _ _ _ w.1, decide_eq_true_iff.mp w.2⟩
theorem backlogDiscard : Statement .backlogDiscard := of_frameless rfl
theorem crcError (body : List Byte) (crc : Half) : Statement (.crcError body crc) := of_frameless rfl
theorem formatError (cause : FormatCause) : Statement (.formatError cause) := of_frameless rfl
theorem interByteTimeout : Statement .interByteTimeout := of_frameless rfl
theorem powerOnReset (pinLow rate1 rate0 : Bool) : Statement (.powerOnReset pinLow rate1 rate0) := of_frameless rfl
theorem resetPinAssert : Statement .resetPinAssert := of_frameless rfl
theorem resetPinRelease (rate1 rate0 : Bool) : Statement (.resetPinRelease rate1 rate0) := of_frameless rfl
theorem bootTransmit : Statement .bootTransmit := of_frameless rfl
theorem bootSent : Statement .bootSent := of_frameless rfl
theorem replyTransmit : Statement .replyTransmit := of_frameless rfl
theorem replySent : Statement .replySent := of_frameless rfl
theorem noticeTransmit : Statement .noticeTransmit := of_frameless rfl
theorem noticeSent : Statement .noticeSent := of_frameless rfl
theorem batchRoomOffer : Statement .batchRoomOffer := of_frameless rfl
theorem frameStart : Statement .frameStart := of_frameless rfl
theorem enterRunning : Statement .enterRunning := of_frameless rfl
theorem adoptionAtRoundStart : Statement .adoptionAtRoundStart := of_frameless rfl
theorem deferTimeout : Statement .deferTimeout := of_frameless rfl
theorem batchItemTimeout : Statement .batchItemTimeout := of_frameless rfl
theorem slotOpen : Statement .slotOpen := of_frameless rfl
theorem slotClose (line : SlotLine) : Statement (.slotClose line) := of_frameless rfl
theorem collision : Statement .collision := of_frameless rfl
theorem stopComplete : Statement .stopComplete := of_frameless rfl

end Sys2Proof.Laws.RequestFraming
end

