-- ==== Sys2Proof/Laws/Reception.lean ====
section
/-! SUPPORT. What a moment on the part's lines can do, said once, and what a step is by the front of its queue. -/

namespace Sys2Proof.Machine

variable {s : State}

/-! ### Characters (R151) -/

/-- A character carries its byte. -/
@[simp] theorem charByte_charBits (b : Byte) : charByte (charBits b) = b := by
  revert b; decide +kernel

/-- A character that the part sends begins with a start bit. -/
@[simp] theorem charStarts_charBits (b : Byte) : charStarts (charBits b) = true := by
  revert b; decide +kernel

/-- A character that the part sends ends with a stop bit. -/
@[simp] theorem charBroken_charBits (b : Byte) : charBroken (charBits b) = false := by
  revert b; decide +kernel

/-! ### One step (log entry 1) -/

/-- A command in front is carried out with the queue's rest. -/
theorem step_command {c : Instr} {rest : List Instr} (h : s.pending = c :: rest) : step s = exec c (s.withPending rest) := by
  rw [step, h]

/-- With no command waiting the next moment comes. -/
theorem step_moment {m : Moment} {rest : List Moment} (hp : s.pending = []) (hm : s.moments = m :: rest) :
    step s = .next ((s.withMoments rest).meet m) := by
  rw [step, hp]
  simp only [State.nextMoment, hm]

/-- With no command waiting and no moment to come the block idles. -/
theorem step_idle (hp : s.pending = []) (hm : s.moments = []) : step s = .next s := by
  rw [step, hp]
  simp only [State.nextMoment, hm]

/-! ### What a moment can do -/

/-- A receiver that has taken a byte changes itself and adds at most one row to the queue. -/
theorem State.received_eq (r : Receiver × Option Instr) :
    s.received r = { s with link := { s.link with receiver := r.1 }, pending := s.pending ++ r.2.toList } := rfl

/-- Every moment leaves everything alone but the receiver, the queue of commands, the transmission on the trunk and the
count of bad cells. -/
theorem State.meet_cases (m : Moment) (s : State) : s.meet m = s ∨ (∃ r, s.meet m = s.received r) ∨
    (∃ k, s.openNow = some (k, .quiet) ∧
      s.meet m = s.withPort { s.port with badCells := satInc s.port.badCells }) ∨
    s.meet m = s.withPort s.port.release := by
  unfold State.meet
  split
  · exact .inl rfl
  · cases m with
    | hrxChar c =>
      simp only [State.receiveChar]
      split
      · split
        · split
          · exact .inr (.inl ⟨_, rfl⟩)
          · exact .inl rfl
        · exact .inr (.inl ⟨_, rfl⟩)
      · exact .inl rfl
    | hrxGap =>
      simp only [State.receiveGap]
      split
      · exact .inr (.inl ⟨_, rfl⟩)
      · exact .inl rfl
    | trxCell =>
      simp only [State.cellBegins]
      split
      · rename_i k h
        exact .inr (.inr (.inl ⟨k, h, rfl⟩))
      all_goals exact .inl rfl
    | ttxEnd => exact .inr (.inr (.inr rfl))

end Sys2Proof.Machine
end

