-- ==== Sys2Proof/Laws/Rows.lean ====
section
/-! SUPPORT. The three forms of a row's meaning, said once: what a request row, an event row and a row that carries out
owed work answer; and when no work is owed. -/

namespace Sys2Proof.Machine

variable (s : State)

/-! ### Work owed -/

/-- Nothing is owed by a frame start. -/
theorem State.settleFrameStart_eq_self (he : s.owesEntry = false) (ha : s.owesAdoption = false)
    (ht : s.owesTimeouts = false) (hi : s.owesItemTimeout = false) : s.settleFrameStart = s := by
  simp [State.settleFrameStart, State.settleEntry, he, ha, ht, hi]

/-- Where no earlier row has left anything owed, a state is open. -/
theorem State.open_of_nothing_owed (hh : s.held = false) (he : s.owesEntry = false) (ha : s.owesAdoption = false)
    (ht : s.owesTimeouts = false) (hi : s.owesItemTimeout = false) (hs : s.owesStop = false)
    (hr : s.roomOffered = false) : s.Open := by
  refine ⟨hh, ?_⟩
  rw [State.settle, if_neg (by simp [hh]), s.settleFrameStart_eq_self he ha ht hi]
  simp [State.settleStop, State.settleRoom, hs, hr]

/-- Outside the marker of a frame, with no STOP to complete and no pass to be offered room, a state is open. -/
theorem State.open_of_quiet (hh : s.held = false) (hm : s.port.pos.inMarker = false) (hs : s.owesStop = false)
    (hr : s.roomOffered = false) : s.Open := by
  apply s.open_of_nothing_owed hh _ _ _ _ hs hr
  · simp [State.owesEntry, hm]
  · have : (s.port.pos == FramePos.marker true) = false := by
      cases hp : s.port.pos <;> simp_all [FramePos.inMarker]
    simp [State.owesAdoption, this]
  · simp [State.owesTimeouts, hm]
  · simp [State.owesItemTimeout, hm]

/-- While frames do not run and no pass waits with room, a state is open. -/
theorem State.open_of_no_frames (hh : s.held = false) (hf : s.port.trunk.framesRun = false)
    (hr : s.roomOffered = false) : s.Open := by
  have hns : s.port.trunk ≠ .starting := by intro h; simp [h, TrunkState.framesRun] at hf
  have hnr : s.port.trunk ≠ .running := by intro h; simp [h, TrunkState.framesRun] at hf
  apply s.open_of_nothing_owed hh _ _ _ _ _ hr
  · simp [State.owesEntry, hns]
  · simp [State.owesAdoption, hnr]
  · simp [State.owesTimeouts, hnr]
  · simp [State.owesItemTimeout, hnr]
  · simp [State.owesStop, hf]

/-! ### Request rows (R155 to R157) -/

variable {s} {tag : Byte} {owner : State → State × Answer}

/-- A request that is taken and passes its length check is answered by its owner. -/
theorem takeRequest_taken (h : s.Takes) : takeRequest tag true owner s = .next ((owner s).1.pushReply tag (owner s).2) := by
  obtain ⟨⟨hh, hs⟩, hb⟩ := h
  simp [takeRequest, hh, hs, hb]

/-- A request that is taken and fails its length check is refused with BAD_LENGTH, detail 0. -/
theorem takeRequest_badLength (h : s.Takes) :
    takeRequest tag false owner s = .next (s.pushReply tag (.refuse .badLength)) := by
  obtain ⟨⟨hh, hs⟩, hb⟩ := h
  simp [takeRequest, hh, hs, hb]

/-- A good frame that is not taken is discarded and counted. -/
theorem takeRequest_backlogged {b : Bool} (h : s.Open) (hb : s.backlogged = true) :
    takeRequest tag b owner s = .next s.discardFrame := by
  obtain ⟨hh, hs⟩ := h
  simp [takeRequest, hh, hs, hb]

/-- While the RESET pin is low a frame is lost. -/
theorem takeRequest_held {b : Bool} (h : s.held = true) : takeRequest tag b owner s = .next s := by
  simp [takeRequest, h]

/-- Everything a request row can answer. -/
theorem takeRequest_cases (b : Bool) (t : State) (h : takeRequest tag b owner s = .next t) :
    (s.held = true ∧ t = s) ∨
      (s.held = false ∧ s.settle.backlogged = true ∧ t = s.settle.discardFrame) ∨
      (s.held = false ∧ s.settle.backlogged = false ∧ b = true ∧
        t = (owner s.settle).1.pushReply tag (owner s.settle).2) ∨
      (s.held = false ∧ s.settle.backlogged = false ∧ b = false ∧
        t = s.settle.pushReply tag (.refuse .badLength)) := by
  simp only [takeRequest, Host.Outcome.next.injEq] at h
  by_cases hh : s.held = true
  · exact .inl ⟨hh, by rw [if_pos hh] at h; exact h.symm⟩
  · have hf : s.held = false := by simpa using hh
    rw [if_neg hh] at h
    by_cases hb : s.settle.backlogged = true
    · exact .inr (.inl ⟨hf, hb, by rw [if_pos hb] at h; exact h.symm⟩)
    · have hbf : s.settle.backlogged = false := by simpa using hb
      rw [if_neg hb] at h
      cases b with
      | true => exact .inr (.inr (.inl ⟨hf, hbf, rfl, h.symm⟩))
      | false => exact .inr (.inr (.inr ⟨hf, hbf, rfl, h.symm⟩))

/-! ### Event rows -/

variable {occasion : State → Bool} {act : State → State}

/-- An event whose occasion has come acts. -/
theorem onEvent_acts (h : s.Open) (ho : occasion s = true) : onEvent occasion act s = .next (act s) := by
  obtain ⟨hh, hs⟩ := h
  simp [onEvent, hh, hs, ho]

/-- An event whose occasion has not come changes nothing. -/
theorem onEvent_idle (h : s.Open) (ho : occasion s = false) : onEvent occasion act s = .next s := by
  obtain ⟨hh, hs⟩ := h
  simp [onEvent, hh, hs, ho]

/-- While the RESET pin is low no event acts. -/
theorem onEvent_held (h : s.held = true) : onEvent occasion act s = .next s := by simp [onEvent, h]

/-- Everything an event row can answer. -/
theorem onEvent_cases (t : State) (h : onEvent occasion act s = .next t) :
    (s.held = true ∧ t = s) ∨ (s.held = false ∧ occasion s.settle = true ∧ t = act s.settle) ∨
      (s.held = false ∧ occasion s.settle = false ∧ t = s.settle) := by
  simp only [onEvent, Host.Outcome.next.injEq] at h
  by_cases hh : s.held = true
  · exact .inl ⟨hh, by rw [if_pos hh] at h; exact h.symm⟩
  · have hf : s.held = false := by simpa using hh
    rw [if_neg hh] at h
    by_cases ho : occasion s.settle = true
    · exact .inr (.inl ⟨hf, ho, by rw [if_pos ho] at h; exact h.symm⟩)
    · exact .inr (.inr ⟨hf, by simpa using ho, by rw [if_neg ho] at h; exact h.symm⟩)

/-- Owed work is carried out by its row. -/
theorem onOwed_acts (hh : s.held = false) (ho : occasion s = true) : onOwed occasion act s = .next (act s) := by
  simp [onOwed, hh, ho]

/-- Everything a row that carries out owed work can answer. -/
theorem onOwed_cases (t : State) (h : onOwed occasion act s = .next t) :
    (s.held = false ∧ occasion s = true ∧ t = act s) ∨ ((s.held = true ∨ occasion s = false) ∧ t = s) := by
  simp only [onOwed, Host.Outcome.next.injEq] at h
  by_cases hc : s.held = false ∧ occasion s = true
  · exact .inl ⟨hc.1, hc.2, by simp [hc.1, hc.2] at h; exact h.symm⟩
  · refine .inr ⟨by cases hh : s.held <;> cases ho : occasion s <;> simp_all, ?_⟩
    have : (!s.held && occasion s) = false := by cases hh : s.held <;> cases ho : occasion s <;> simp_all
    rw [this] at h
    exact h.symm

/-! ### Replies -/

@[simp] theorem State.pushReply_port (a : Answer) : (s.pushReply tag a).port = s.port := rfl
@[simp] theorem State.pushReply_sched (a : Answer) : (s.pushReply tag a).sched = s.sched := rfl
@[simp] theorem State.pushReply_roster (a : Answer) : (s.pushReply tag a).roster = s.roster := rfl
@[simp] theorem State.pushReply_engine (a : Answer) : (s.pushReply tag a).engine = s.engine := rfl
@[simp] theorem State.pushReply_batch (a : Answer) : (s.pushReply tag a).batch = s.batch := rfl
@[simp] theorem State.pushReply_delivery (a : Answer) : (s.pushReply tag a).delivery = s.delivery := rfl
@[simp] theorem State.pushReply_draws (a : Answer) : (s.pushReply tag a).draws = s.draws := rfl
@[simp] theorem State.pushReply_moments (a : Answer) : (s.pushReply tag a).moments = s.moments := rfl
@[simp] theorem State.pushReply_pending (a : Answer) : (s.pushReply tag a).pending = s.pending := rfl
@[simp] theorem State.pushReply_tags (a : Answer) : (s.pushReply tag a).link.tags = s.link.tags := rfl
@[simp] theorem State.pushReply_replies (a : Answer) :
    (s.pushReply tag a).link.replies = s.link.replies ++ [⟨tag, a.result, a.detail, a.data⟩] := rfl

end Sys2Proof.Machine
end

