-- ==== Sys2Proof/Laws/Transactions.lean ====
section
/-! SUPPORT. Station entries, the completion of host records, and the batch unit's passes: what each operation changes and
which blocks it leaves alone. -/

namespace Sys2Proof.Machine

variable (s : State)

/-! ### Station entries -/

/-- The entry that was replaced reads as the new one, every other entry as before. -/
theorem State.entry_setEntry (a b : StAddr) (e : StationEntry) :
    (s.setEntry a e).entry b = if a = b then e else s.entry b := Table.get_set _ _ _ _

@[simp] theorem State.entry_setEntry_self (a : StAddr) (e : StationEntry) : (s.setEntry a e).entry a = e := by
  simp [State.entry_setEntry]

/-- A marker set or cleared changes that station's marker alone. -/
theorem State.entry_setMarker (a b : StAddr) (m : Option Marker) :
    (s.setMarker a m).entry b = if a = b then { s.entry a with marker := m } else s.entry b :=
  s.entry_setEntry a b _

@[simp] theorem State.setEntry_port (a : StAddr) (e : StationEntry) : (s.setEntry a e).port = s.port := rfl
@[simp] theorem State.setEntry_sched (a : StAddr) (e : StationEntry) : (s.setEntry a e).sched = s.sched := rfl
@[simp] theorem State.setEntry_engine (a : StAddr) (e : StationEntry) : (s.setEntry a e).engine = s.engine := rfl
@[simp] theorem State.setEntry_batch (a : StAddr) (e : StationEntry) : (s.setEntry a e).batch = s.batch := rfl
@[simp] theorem State.setEntry_delivery (a : StAddr) (e : StationEntry) : (s.setEntry a e).delivery = s.delivery := rfl
@[simp] theorem State.setEntry_link (a : StAddr) (e : StationEntry) : (s.setEntry a e).link = s.link := rfl
@[simp] theorem State.setEntry_draws (a : StAddr) (e : StationEntry) : (s.setEntry a e).draws = s.draws := rfl
@[simp] theorem State.setEntry_moments (a : StAddr) (e : StationEntry) : (s.setEntry a e).moments = s.moments := rfl
@[simp] theorem State.setEntry_pending (a : StAddr) (e : StationEntry) : (s.setEntry a e).pending = s.pending := rfl

@[simp] theorem State.setMarker_port (a : StAddr) (m : Option Marker) : (s.setMarker a m).port = s.port := rfl
@[simp] theorem State.setMarker_sched (a : StAddr) (m : Option Marker) : (s.setMarker a m).sched = s.sched := rfl
@[simp] theorem State.setMarker_engine (a : StAddr) (m : Option Marker) : (s.setMarker a m).engine = s.engine := rfl
@[simp] theorem State.setMarker_batch (a : StAddr) (m : Option Marker) : (s.setMarker a m).batch = s.batch := rfl
@[simp] theorem State.setMarker_delivery (a : StAddr) (m : Option Marker) : (s.setMarker a m).delivery = s.delivery := rfl
@[simp] theorem State.setMarker_link (a : StAddr) (m : Option Marker) : (s.setMarker a m).link = s.link := rfl
@[simp] theorem State.setMarker_draws (a : StAddr) (m : Option Marker) : (s.setMarker a m).draws = s.draws := rfl
@[simp] theorem State.setMarker_moments (a : StAddr) (m : Option Marker) : (s.setMarker a m).moments = s.moments := rfl
@[simp] theorem State.setMarker_pending (a : StAddr) (m : Option Marker) : (s.setMarker a m).pending = s.pending := rfl

@[simp] theorem State.mapEntries_port (f : StationEntry → StationEntry) : (s.mapEntries f).port = s.port := rfl
@[simp] theorem State.mapEntries_sched (f : StationEntry → StationEntry) : (s.mapEntries f).sched = s.sched := rfl
@[simp] theorem State.mapEntries_engine (f : StationEntry → StationEntry) : (s.mapEntries f).engine = s.engine := rfl
@[simp] theorem State.mapEntries_batch (f : StationEntry → StationEntry) : (s.mapEntries f).batch = s.batch := rfl
@[simp] theorem State.mapEntries_delivery (f : StationEntry → StationEntry) : (s.mapEntries f).delivery = s.delivery := rfl
@[simp] theorem State.mapEntries_link (f : StationEntry → StationEntry) : (s.mapEntries f).link = s.link := rfl
@[simp] theorem State.mapEntries_draws (f : StationEntry → StationEntry) : (s.mapEntries f).draws = s.draws := rfl
@[simp] theorem State.mapEntries_moments (f : StationEntry → StationEntry) : (s.mapEntries f).moments = s.moments := rfl
@[simp] theorem State.mapEntries_pending (f : StationEntry → StationEntry) : (s.mapEntries f).pending = s.pending := rfl

/-- Every entry reads as its old self passed through the function. -/
theorem State.entry_mapEntries (f : StationEntry → StationEntry) (a : StAddr) :
    (s.mapEntries f).entry a = f (s.entry a) := Table.get_map _ _ _

@[simp] theorem State.dropRecord_port (t : Byte) : (s.dropRecord t).port = s.port := rfl
@[simp] theorem State.dropRecord_sched (t : Byte) : (s.dropRecord t).sched = s.sched := rfl
@[simp] theorem State.dropRecord_roster (t : Byte) : (s.dropRecord t).roster = s.roster := rfl
@[simp] theorem State.dropRecord_batch (t : Byte) : (s.dropRecord t).batch = s.batch := rfl
@[simp] theorem State.dropRecord_delivery (t : Byte) : (s.dropRecord t).delivery = s.delivery := rfl
@[simp] theorem State.dropRecord_link (t : Byte) : (s.dropRecord t).link = s.link := rfl
@[simp] theorem State.dropRecord_draws (t : Byte) : (s.dropRecord t).draws = s.draws := rfl
@[simp] theorem State.dropRecord_moments (t : Byte) : (s.dropRecord t).moments = s.moments := rfl
@[simp] theorem State.dropRecord_pending (t : Byte) : (s.dropRecord t).pending = s.pending := rfl

@[simp] theorem State.setAttempt_port (t : Byte) (a : Attempt) : (s.setAttempt t a).port = s.port := rfl
@[simp] theorem State.setAttempt_sched (t : Byte) (a : Attempt) : (s.setAttempt t a).sched = s.sched := rfl
@[simp] theorem State.setAttempt_roster (t : Byte) (a : Attempt) : (s.setAttempt t a).roster = s.roster := rfl
@[simp] theorem State.setAttempt_batch (t : Byte) (a : Attempt) : (s.setAttempt t a).batch = s.batch := rfl
@[simp] theorem State.setAttempt_delivery (t : Byte) (a : Attempt) : (s.setAttempt t a).delivery = s.delivery := rfl
@[simp] theorem State.setAttempt_link (t : Byte) (a : Attempt) : (s.setAttempt t a).link = s.link := rfl
@[simp] theorem State.setAttempt_draws (t : Byte) (a : Attempt) : (s.setAttempt t a).draws = s.draws := rfl
@[simp] theorem State.setAttempt_moments (t : Byte) (a : Attempt) : (s.setAttempt t a).moments = s.moments := rfl
@[simp] theorem State.setAttempt_pending (t : Byte) (a : Attempt) : (s.setAttempt t a).pending = s.pending := rfl

@[simp] theorem State.setBatch_port (b : BatchState) : (s.setBatch b).port = s.port := rfl
@[simp] theorem State.setBatch_sched (b : BatchState) : (s.setBatch b).sched = s.sched := rfl
@[simp] theorem State.setBatch_roster (b : BatchState) : (s.setBatch b).roster = s.roster := rfl
@[simp] theorem State.setBatch_engine (b : BatchState) : (s.setBatch b).engine = s.engine := rfl
@[simp] theorem State.setBatch_delivery (b : BatchState) : (s.setBatch b).delivery = s.delivery := rfl
@[simp] theorem State.setBatch_link (b : BatchState) : (s.setBatch b).link = s.link := rfl
@[simp] theorem State.setBatch_draws (b : BatchState) : (s.setBatch b).draws = s.draws := rfl
@[simp] theorem State.setBatch_moments (b : BatchState) : (s.setBatch b).moments = s.moments := rfl
@[simp] theorem State.setBatch_pending (b : BatchState) : (s.setBatch b).pending = s.pending := rfl

/-! ### Completion of a host record (R108) -/

section
variable (r : HostRecord) (o : TxnOutcome) (reason : Byte) (data : List Byte)

@[simp] theorem State.completeHost_port : (s.completeHost r o reason data).port = s.port := by
  unfold State.completeHost; cases r.attempt.wasIssued <;> rfl
@[simp] theorem State.completeHost_sched : (s.completeHost r o reason data).sched = s.sched := by
  unfold State.completeHost; cases r.attempt.wasIssued <;> rfl
@[simp] theorem State.completeHost_batch : (s.completeHost r o reason data).batch = s.batch := by
  unfold State.completeHost; cases r.attempt.wasIssued <;> rfl
@[simp] theorem State.completeHost_draws : (s.completeHost r o reason data).draws = s.draws := by
  unfold State.completeHost; cases r.attempt.wasIssued <;> rfl
@[simp] theorem State.completeHost_moments : (s.completeHost r o reason data).moments = s.moments := by
  unfold State.completeHost; cases r.attempt.wasIssued <;> rfl
@[simp] theorem State.completeHost_pending : (s.completeHost r o reason data).pending = s.pending := by
  unfold State.completeHost; cases r.attempt.wasIssued <;> rfl

/-- The record leaves the queue, and no other does (R108). -/
theorem State.completeHost_queue :
    (s.completeHost r o reason data).engine.queue = s.engine.queue.eraseP (fun x => x.tag == r.tag) := by
  unfold State.completeHost; cases r.attempt.wasIssued <;> rfl

/-- Its DONE record takes the place of its reservation (R108, R139). -/
theorem State.completeHost_delivery :
    (s.completeHost r o reason data).delivery = s.delivery.appendDone r.tag o reason data := by
  unfold State.completeHost; cases r.attempt.wasIssued <;> rfl

/-- Its tag is released and nothing else of the host link changes (R108, R158). -/
theorem State.completeHost_link :
    (s.completeHost r o reason data).link = { s.link with tags := s.link.tags.erase r.tag } := by
  unfold State.completeHost; cases r.attempt.wasIssued <;> rfl

/-- Its station's marker is cleared if it had been issued; every other entry is as before (R108). -/
theorem State.completeHost_entry (a : StAddr) :
    (s.completeHost r o reason data).entry a
      = if r.attempt.wasIssued = true ∧ r.request.station = a then { s.entry a with marker := none } else s.entry a := by
  unfold State.completeHost
  cases h : r.attempt.wasIssued with
  | false => simp; rfl
  | true =>
    by_cases ha : r.request.station = a
    · subst ha; simp [State.onDelivery, State.releaseTag, State.entry, State.setMarker, State.setEntry]
    · have := (s.dropRecord r.tag).entry_setMarker r.request.station a none
      simp only [ha, if_false, and_false] at this ⊢
      exact this

end

/-- A list of records completes: each leaves the queue in turn (R112, R114). -/
theorem State.completeAll_cons (o : TxnOutcome) (r : HostRecord) (rest : List HostRecord) :
    s.completeAll o (r :: rest) = (s.completeHost r o 0 []).completeAll o rest := rfl

@[simp] theorem State.completeAll_port (o : TxnOutcome) (rs : List HostRecord) (s : State) :
    (s.completeAll o rs).port = s.port := by
  induction rs generalizing s with
  | nil => rfl
  | cons r rest ih => rw [State.completeAll_cons, ih, State.completeHost_port]
@[simp] theorem State.completeAll_sched (o : TxnOutcome) (rs : List HostRecord) (s : State) :
    (s.completeAll o rs).sched = s.sched := by
  induction rs generalizing s with
  | nil => rfl
  | cons r rest ih => rw [State.completeAll_cons, ih, State.completeHost_sched]
@[simp] theorem State.completeAll_batch (o : TxnOutcome) (rs : List HostRecord) (s : State) :
    (s.completeAll o rs).batch = s.batch := by
  induction rs generalizing s with
  | nil => rfl
  | cons r rest ih => rw [State.completeAll_cons, ih, State.completeHost_batch]
@[simp] theorem State.completeAll_draws (o : TxnOutcome) (rs : List HostRecord) (s : State) :
    (s.completeAll o rs).draws = s.draws := by
  induction rs generalizing s with
  | nil => rfl
  | cons r rest ih => rw [State.completeAll_cons, ih, State.completeHost_draws]
@[simp] theorem State.completeAll_moments (o : TxnOutcome) (rs : List HostRecord) (s : State) :
    (s.completeAll o rs).moments = s.moments := by
  induction rs generalizing s with
  | nil => rfl
  | cons r rest ih => rw [State.completeAll_cons, ih, State.completeHost_moments]
@[simp] theorem State.completeAll_pending (o : TxnOutcome) (rs : List HostRecord) (s : State) :
    (s.completeAll o rs).pending = s.pending := by
  induction rs generalizing s with
  | nil => rfl
  | cons r rest ih => rw [State.completeAll_cons, ih, State.completeHost_pending]

/-- The records of a completion of many stand at the tail in their order, one DONE record each (R112, R114). -/
theorem State.completeAll_records (o : TxnOutcome) (rs : List HostRecord) (s : State) :
    (s.completeAll o rs).delivery.records
      = s.delivery.records ++ rs.map fun r => DeliveryRecord.done r.tag o 0 [] := by
  induction rs generalizing s with
  | nil => simp [State.completeAll]
  | cons r rest ih => rw [State.completeAll_cons, ih, State.completeHost_delivery]; simp

/-! ### Passes of a batch run (R123, R128, R130) -/

section
variable (l : BatchList) (r : BatchRun)

@[simp] theorem State.endPass_port (cause : EndCause) (oc : List (Option ItemOutcome)) :
    (s.endPass l r cause oc).port = s.port := by
  unfold State.endPass; cases finalPass cause r <;> rfl
@[simp] theorem State.holdProgress_port (p : PassProgress) : (s.holdProgress l r p).1.port = s.port := by
  cases p <;> simp [State.holdProgress]
@[simp] theorem State.startPass_port : (s.startPass l r).1.port = s.port := by
  unfold State.startPass; split <;> simp [State.beginItems]
@[simp] theorem State.endPass_sched (cause : EndCause) (oc : List (Option ItemOutcome)) :
    (s.endPass l r cause oc).sched = s.sched := by
  unfold State.endPass; cases finalPass cause r <;> rfl
@[simp] theorem State.holdProgress_sched (p : PassProgress) : (s.holdProgress l r p).1.sched = s.sched := by
  cases p <;> simp [State.holdProgress]
@[simp] theorem State.startPass_sched : (s.startPass l r).1.sched = s.sched := by
  unfold State.startPass; split <;> simp [State.beginItems]
@[simp] theorem State.endPass_roster (cause : EndCause) (oc : List (Option ItemOutcome)) :
    (s.endPass l r cause oc).roster = s.roster := by
  unfold State.endPass; cases finalPass cause r <;> rfl
@[simp] theorem State.holdProgress_roster (p : PassProgress) : (s.holdProgress l r p).1.roster = s.roster := by
  cases p <;> simp [State.holdProgress]
@[simp] theorem State.startPass_roster : (s.startPass l r).1.roster = s.roster := by
  unfold State.startPass; split <;> simp [State.beginItems]
@[simp] theorem State.endPass_engine (cause : EndCause) (oc : List (Option ItemOutcome)) :
    (s.endPass l r cause oc).engine = s.engine := by
  unfold State.endPass; cases finalPass cause r <;> rfl
@[simp] theorem State.holdProgress_engine (p : PassProgress) : (s.holdProgress l r p).1.engine = s.engine := by
  cases p <;> simp [State.holdProgress]
@[simp] theorem State.startPass_engine : (s.startPass l r).1.engine = s.engine := by
  unfold State.startPass; split <;> simp [State.beginItems]
@[simp] theorem State.endPass_draws (cause : EndCause) (oc : List (Option ItemOutcome)) :
    (s.endPass l r cause oc).draws = s.draws := by
  unfold State.endPass; cases finalPass cause r <;> rfl
@[simp] theorem State.endPass_moments (cause : EndCause) (oc : List (Option ItemOutcome)) :
    (s.endPass l r cause oc).moments = s.moments := by
  unfold State.endPass; cases finalPass cause r <;> rfl
@[simp] theorem State.holdProgress_draws (p : PassProgress) : (s.holdProgress l r p).1.draws = s.draws := by
  cases p <;> simp [State.holdProgress]
@[simp] theorem State.holdProgress_moments (p : PassProgress) : (s.holdProgress l r p).1.moments = s.moments := by
  cases p <;> simp [State.holdProgress]
@[simp] theorem State.startPass_draws : (s.startPass l r).1.draws = s.draws := by
  unfold State.startPass; split <;> simp [State.beginItems]
@[simp] theorem State.startPass_moments : (s.startPass l r).1.moments = s.moments := by
  unfold State.startPass; split <;> simp [State.beginItems]
@[simp] theorem State.endPass_pending (cause : EndCause) (oc : List (Option ItemOutcome)) :
    (s.endPass l r cause oc).pending = s.pending := by
  unfold State.endPass; cases finalPass cause r <;> rfl
@[simp] theorem State.holdProgress_pending (p : PassProgress) : (s.holdProgress l r p).1.pending = s.pending := by
  cases p <;> simp [State.holdProgress]
@[simp] theorem State.startPass_pending : (s.startPass l r).1.pending = s.pending := by
  unfold State.startPass; split <;> simp [State.beginItems]

/-- Every step of a run of passes changes the batch unit, the delivery queue and the tag table alone. -/
theorem State.runPasses_frame (n : Nat) (l : BatchList) (r : BatchRun) (s : State) :
    (s.runPasses n l r).port = s.port ∧ (s.runPasses n l r).sched = s.sched ∧
      (s.runPasses n l r).roster = s.roster ∧ (s.runPasses n l r).engine = s.engine ∧
      (s.runPasses n l r).draws = s.draws ∧ (s.runPasses n l r).pending = s.pending := by
  induction n generalizing r s with
  | zero => simp [State.runPasses]
  | succ n ih =>
    simp only [State.runPasses]
    cases h : (s.startPass l r).2 with
    | false => simp
    | true => simpa using ih { r with pass := r.pass + 1 } (s.startPass l r).1

/-- A pass in progress that goes on changes the batch unit, the delivery queue and the tag table alone. -/
theorem State.continueRun_frame (p : PassProgress) :
    (s.continueRun l r p).port = s.port ∧ (s.continueRun l r p).sched = s.sched ∧
      (s.continueRun l r p).roster = s.roster ∧ (s.continueRun l r p).engine = s.engine ∧
      (s.continueRun l r p).draws = s.draws ∧ (s.continueRun l r p).pending = s.pending := by
  simp only [State.continueRun]
  cases h : (s.holdProgress l r p).2 with
  | false => simp
  | true =>
    simpa using State.runPasses_frame (r.passes - r.pass) l { r with pass := r.pass + 1, waiting := false }
      (s.holdProgress l r p).1

/-- The end of a pass appends its PASS record in place of its reservation (R130). -/
theorem State.endPass_delivery (cause : EndCause) (oc : List (Option ItemOutcome)) :
    (s.endPass l r cause oc).delivery
      = s.delivery.appendPass r.tag r.pass (finalPass cause r) cause (recordOutcomes oc) := by
  unfold State.endPass; cases finalPass cause r <;> rfl

/-- After the final pass the batch unit is LOADED with its list and the tag is released (R130). -/
theorem State.endPass_final (cause : EndCause) (oc : List (Option ItemOutcome)) (h : finalPass cause r = true) :
    (s.endPass l r cause oc).batch.state = .loaded l ∧
      (s.endPass l r cause oc).link.tags = s.link.tags.erase r.tag := by
  simp [State.endPass, h, State.setBatch]

end

end Sys2Proof.Machine
end

