-- ==== Sys2Proof/Tests/Slice0.lean ====
section
/-! SUPPORT. Tests. Expected values come from the manual's tables, from its rules worked by hand, and for check codes from an
independent implementation of the two CRCs. Each statement of Obligations.lean with hypotheses has a witness here. -/

namespace Sys2Proof.Tests

set_option Elab.async false

open Sys2Proof Sys2Proof.Machine

/-! ### Helpers -/

/-- Bytes from numbers. -/
def bs (l : List Nat) : List Byte := l.map (BitVec.ofNat 8)

/-- The next state that a row answers. -/
def after (i : Instr) (s : State) : State :=
  match exec i s with
  | .next t => t
  | .fault _ => s
  | .refused _ => s

/-- 10 Mbit/s, 16 slots, 220 µs, miss threshold 2, loss limit 4, retry limit 1, defer window 6. -/
def cfg : ConfigRecord := ⟨.mbit10, 16, 22, 2, 4, 1, 6⟩

/-- OUT to station 1, depth 2, every frame, slots 2 and 3. -/
def outDef : CircuitDef := ⟨.out (.station 0) 2, 1, 0, [2, 3]⟩

/-- IN from station 2, filter on, every other frame, slot 4. -/
def inDef : CircuitDef := ⟨.inn 1 true, 2, 0, [4]⟩

/-- 8 bytes. -/
def unit8 : Buf := ⟨1, 2, 3, 4, 5, 6, 7, 8⟩

/-- The OUT circuit with one unit queued. -/
def outLive : LiveCircuit := ⟨outDef, { CircuitRun.fresh .running with queue := [[unit8, Buf.zero]] }⟩

/-- The IN circuit. -/
def inLive : LiveCircuit := ⟨inDef, CircuitRun.fresh .running⟩

/-- Circuits 0 and 1, one open pair at slot 0. -/
def live : LiveSchedule := ⟨((Table.replicate 32 none).set 0 (some outLive)).set 1 (some inLive), [0]⟩

/-- The same schedule as a draft. -/
def draft : Draft := ⟨((Table.replicate 32 none).set 0 (some outDef)).set 1 (some inDef), [0]⟩

/-- FETCH of object 5 at station 1. -/
def fetch1 : TxnRequest := ⟨0, .fetch, 5, []⟩

/-- STORE of two bytes at station 2. -/
def store2 : TxnRequest := ⟨1, .store, 0xABC, [0xDE, 0xAD]⟩

/-- A transaction issued in frame 3 with token 1. -/
def issued : Attempt := ⟨.issued, 0, false, some 3, some 1, none, false⟩

/-- A deferred transaction that waits since frame 3, due. -/
def waitingDue : Attempt := ⟨.waiting, 0, true, some 3, some 1, some 5, true⟩

/-- Two items, stopping at the first failure. -/
def items : BatchList := ⟨[store2, fetch1], .stop⟩

/-- The run record of pass 1 of 2 with its first item current. -/
def run1 (a : Attempt) : BatchRun := ⟨0x30, 2, 1, some ⟨1, a⟩, false, false, none, [none, none]⟩

/-- The part at work: stations 1 and 2 ACTIVE, a host record issued to station 1 and one queued, a batch item issued to
station 2. -/
def busyWith (trunk : TrunkState) (pos : FramePos) : State := { State.reset with
  port := { Port.atReset with trunk := trunk, config := some cfg, timer := .nextFrame, frameNo := 4, pos := pos }
  sched := ⟨some live, draft, false⟩
  roster.entries := (Roster.atReset.entries.set 0 ⟨.active, 0, 3, none, false, some ⟨.host, 0x21⟩⟩).set 1
    ⟨.active, 0, 3, none, false, some ⟨.batch, 0x30⟩⟩
  engine.queue := [⟨0x21, fetch1, issued⟩, ⟨0x22, fetch1, Attempt.fresh⟩]
  batch.state := .running items (run1 issued)
  delivery := { Delivery.atReset with free := 510, hostRes := 2, batchRes := true }
  link.tags := [0x21, 0x22, 0x30] }

/-- The part at work between two frames. -/
def busy : State := busyWith .running .idle

/-- Configured, its schedule live, no frames running and nothing in progress. -/
def idle (trunk : TrunkState) : State := { State.reset with
  port := { Port.atReset with trunk := trunk, config := some cfg }
  sched := ⟨some live, draft, false⟩
  delivery := { Delivery.atReset with free := 510 } }

/-- The receiver is in a frame whose LEN has not come yet. -/
def inFrame (s : State) : State := { s with link.receiver := .inFrame [] }

/-- What steps with no command waiting make of moments, one after another. -/
def meets (ms : List Moment) (s : State) : State := ms.foldl (fun u m => u.meet m) s

/-! ### Well-formedness refuses what cannot arrive -/

theorem test_wf_payload_252 : (Instr.put 1 (List.replicate 252 0)).wellFormed = true := by decide +kernel
theorem test_wf_payload_253 : (Instr.put 1 (List.replicate 253 0)).wellFormed = false := by decide +kernel
theorem test_wf_unknown_kind_is_no_request : (Instr.unknownKind 0x01 0 []).wellFormed = false := by decide +kernel
theorem test_wf_unknown_kind_payload : (Instr.unknownKind 0x7F 0 (List.replicate 253 0)).wellFormed = false := by decide +kernel
theorem test_wf_unknown_kind : (Instr.unknownKind 0x7F 0 []).wellFormed = true := by decide +kernel
theorem test_wf_crc_body_short : (Instr.crcError [1] 0).wellFormed = false := by decide +kernel
theorem test_wf_crc_body_long : (Instr.crcError (List.replicate 255 0) 0).wellFormed = false := by decide +kernel
theorem test_wf_crc_agrees : (Instr.crcError (bs [0x01, 0x11]) 0x93DD).wellFormed = false := by decide +kernel
theorem test_wf_crc_disagrees : (Instr.crcError (bs [0x01, 0x11]) 0x93DC).wellFormed = true := by decide +kernel
theorem test_wf_legal_len : (Instr.formatError (.illegalLen 2)).wellFormed = false := by decide +kernel
theorem test_wf_illegal_len : (Instr.formatError (.illegalLen 255)).wellFormed = true := by decide +kernel

/-! ### Check codes, frames, cells (R13, R15, R152, R171, R172) -/

theorem test_crc16 : crc16 (bs [0x31, 0x32, 0x33, 0x34, 0x35, 0x36, 0x37, 0x38, 0x39]) = 0x29B1 := by decide +kernel
theorem test_crc8 : crc8 (bs [0x31, 0x32, 0x33, 0x34, 0x35, 0x36, 0x37, 0x38, 0x39]) = 0xF4 := by decide +kernel
theorem test_marker : markerBytes 0x1234 = bs [0x3C, 0x12, 0x34, 0xF1] := by decide +kernel
theorem test_roll_cell : cellBytes (packHeader cellRoll (addrField 4) 0 0) Buf.zero
    = bs [0x32, 0x80, 0, 0, 0, 0, 0, 0, 0, 0, 0x2D, 0x9A] := by decide +kernel
theorem test_hold_cell : cellBytes (outHeader .broadcast .hold 0 1) unit8
    = bs [0x1F, 0x87, 1, 2, 3, 4, 5, 6, 7, 8, 0x5B, 0xAB] := by decide +kernel
theorem test_request_cell : cellBytes (requestHeader 1 9) store2.payload
    = bs [0x21, 0x48, 2, 0x0A, 0xBC, 2, 0xDE, 0xAD, 0, 0, 0xFC, 0xE7] := by decide +kernel
theorem test_boot_frame : BootCause.power.frame = bs [0xA5, 4, 0xA0, 0, 1, 2, 0x61, 0x0F] := by decide +kernel

theorem test_receive_hello : receiveFrame (bs [0x00, 0xA5, 0x02, 0x01, 0x11, 0x93, 0xDD]) = some (.hello 0x11 []) := by
  decide +kernel
theorem test_receive_credit :
    receiveFrame (bs [0xA5, 0x03, 0x04, 0x12, 0x05, 0xF6, 0x68]) = some (.credit 0x12 (bs [5])) := by decide +kernel
theorem test_receive_admit :
    receiveFrame (bs [0xA5, 0x04, 0x20, 0x33, 0x07, 0x01, 0xBA, 0x07]) = some (.admitStation 0x33 (bs [7, 1])) := by
  decide +kernel
theorem test_receive_transact : receiveFrame (bs [0xA5, 0x07, 0x28, 0x44, 2, 1, 0, 5, 0, 0xAA, 0x0E])
    = some (.transact 0x44 (bs [2, 1, 0, 5, 0])) := by decide +kernel
theorem test_receive_unknown :
    receiveFrame (bs [0xA5, 0x02, 0x7F, 0x01, 0xAA, 0xBA]) = some (.unknownKind 0x7F 1 []) := by decide +kernel
theorem test_receive_crc_error :
    receiveFrame (bs [0xA5, 0x02, 0x01, 0x11, 0x93, 0xDC]) = some (.crcError (bs [0x01, 0x11]) 0x93DC) := by decide +kernel
theorem test_receive_illegal_len : receiveFrame (bs [0xA5, 0x01]) = some (.formatError (.illegalLen 1)) := by decide +kernel
theorem test_receive_incomplete : receiveFrame (bs [0xA5, 0x02, 0x01]) = none := by decide +kernel

/-- Start bit, 8 data bits least significant first, stop bit (R151). -/
theorem test_char_bits : charBits 0xA5 = 0b1101001010#10 := by decide
theorem test_char_starts_frame : (meets [.hrxChar (charBits 0xA5)] State.reset).link.receiver = .inFrame [] := by
  decide +kernel
theorem test_chars_bring_hello :
    (meets ((lineChars (bs [0x00, 0xA5, 0x02, 0x01, 0x11, 0x93, 0xDD])).map .hrxChar) State.reset).pending
      = [.hello 0x11 []] := by decide +kernel
theorem test_broken_char_in_frame :
    (meets [.hrxChar (charBits 0xA5), .hrxChar 0b0000000010#10] State.reset).pending = [.formatError .character] := by
  decide +kernel
theorem test_broken_char_while_hunting : (meets [.hrxChar 0b0101001010#10, .hrxGap] State.reset).link.receiver = .hunting := by
  decide +kernel
theorem test_gap_in_frame : (meets [.hrxChar (charBits 0xA5), .hrxGap] State.reset).pending = [.interByteTimeout] := by
  decide +kernel

/-! ### One step each -/

theorem test_hello : (after (.hello 0x11 []) State.reset).link.replies
    = [⟨0x11, .ok, 0, bs [0x7A, 0x31, 0x41, 0x20, 2, 32, 30, 16, 64, 2, 0, 128, 24, 15]⟩] := by decide +kernel
theorem test_status_busy_counts : ((after (.status 0x12 [0]) busy).link.replies.map fun r => (r.data.take 7, r.data.drop 9))
    = [(bs [3, 0, 4, 0, 0, 1, 1], (bs [0, 3, 0, 0, 0, 0, 0, 0, 0, 0, 0, 2, 2, 3, 1] ++ List.replicate 16 0))] := by
  decide +kernel
theorem test_restart_marks : (after (.restart 0x13 []) busy).link.restartPending = true := by decide +kernel
theorem test_credit_saturates :
    (after (.credit 1 [200]) { busy with delivery.credits := 100 }).delivery.credits = 255 := by decide +kernel
theorem test_configure_shortest_period : (after (.configure 1 (bs [3, 16, 0, 21, 2, 4, 1, 6])) State.reset).port.config
    = some ⟨.mbit10, 16, 21, 2, 4, 1, 6⟩ := by decide +kernel
theorem test_configure_period_too_short :
    ((after (.configure 1 (bs [3, 64, 0, 82, 2, 4, 1, 6])) State.reset).link.replies.map fun r => (r.result, r.detail))
      = [(.badField, 3)] := by decide +kernel
theorem test_start : (after (.start 1 []) (idle .ready)).port.trunk = .starting := by decide +kernel
theorem test_stop_waits_for_frame_end :
    (after (.stop 1 []) (busyWith .running (.slotClosed 3))).port.stopPending = true := by decide +kernel
theorem test_stop_halted : (after (.stop 1 []) (idle .halted)).port.trunk = .ready := by decide +kernel
theorem test_define_circuit :
    (after (.defineCircuit 1 (bs [31, 1, 31, 16, 15, 2, 7, 63, 9, 9, 8, 0])) State.reset).sched.draft.circuits.get 31
      = some ⟨.out .broadcast 8, 16, 15, [7, 63]⟩ := by decide +kernel
theorem test_define_circuit_phase :
    ((after (.defineCircuit 1 (bs [0, 1, 1, 4, 4, 1, 7, 0, 0, 0, 1, 0])) State.reset).link.replies.map
      fun r => (r.result, r.detail)) = [(.badField, 5)] := by decide +kernel
theorem test_drop_circuit : (after (.dropCircuit 1 [0]) busy).sched.draft.circuits.get 0 = none := by decide +kernel
theorem test_set_open : (after (.setOpen 1 (bs [2, 0, 2])) State.reset).sched.draft.pairs = [0, 2] := by decide +kernel
theorem test_set_open_too_near :
    ((after (.setOpen 1 (bs [2, 0, 1])) State.reset).link.replies.map fun r => (r.result, r.detail))
      = [(.badField, 3)] := by decide +kernel
theorem test_adopt_empty_pairs :
    ((after (.adopt 1 []) { idle .ready with sched.draft.pairs := [] }).link.replies.map fun r => (r.result, r.detail))
      = [(.conflict, 0xFF)] := by decide +kernel
theorem test_adopt_closes : ((after (.adopt 1 []) { idle .ready with
      sched.draft.circuits := (Table.replicate 32 none).set 0 (some outDef) }).link.replies.map Reply.data)
    = [bs [1, 1]] := by decide +kernel
theorem test_revert : (after (.revert 1 []) { busy with sched.draft := ⟨Table.replicate 32 none, []⟩ }).sched.draft
    = draft := by decide +kernel
theorem test_put : ((after (.put 1 (0 :: List.replicate 16 7)) busy).circuit 0).map (fun c => c.run.queue.length)
    = some 2 := by decide +kernel
theorem test_put_pool_low :
    ((after (.put 1 (0 :: List.replicate 16 7)) { busy with delivery.free := 65 }).link.replies.map Reply.result)
      = [.poolLow] := by decide +kernel
theorem test_purge : (after (.purge 1 [0]) busy).delivery.free = 512 := by decide +kernel
theorem test_read_circuit : ((after (.readCircuit 1 (bs [0, 0])) busy).link.replies.map fun r => r.data.take 29)
    = [bs [1, 0, 1, 1, 1, 0, 2, 2, 3, 0, 0, 2, 0, 1, 0, 1, 1, 1, 0, 2, 2, 3, 0, 0, 2, 0, 1, 1, 0]] := by decide +kernel
theorem test_admit_found : (after (.admitStation 1 (bs [1, 1])) (busy.setEntry 0 ⟨.found, 1, 0, none, false, none⟩)).entry 0
    = ⟨.active, 0, 0, none, true, none⟩ := by decide +kernel
theorem test_exclude_completes_records :
    (after (.excludeStation 1 [1]) busy).delivery.records.filterMap DeliveryRecord.doneTag?
      = [(0x21, .stationExcluded), (0x22, .stationExcluded)] := by decide +kernel
theorem test_release_needs_excluded :
    ((after (.releaseStation 1 [1]) busy).link.replies.map Reply.result) = [.wrongState] := by decide +kernel
theorem test_query_station : ((after (.queryStation 1 [2]) busy).link.replies.map Reply.data)
    = [bs [2, 0, 3, 0, 0, 0, 0, 0, 0, 0, 0, 0, 0, 2, 0x30]] := by decide +kernel
theorem test_transact : (after (.transact 0x44 (bs [2, 2, 0x0A, 0xBC, 2, 0xDE, 0xAD])) (idle .ready)).engine.queue
    = [⟨0x44, store2, Attempt.fresh⟩] := by decide +kernel
theorem test_transact_no_room :
    ((after (.transact 0x44 (bs [2, 1, 0, 5, 0])) { idle .ready with
      delivery.records := List.replicate 128 (.overflow Folded.zero) }).link.replies.map Reply.result) = [.noRoom] := by
  decide +kernel
theorem test_cancel_queued : (after (.cancel 1 [0x22]) busy).delivery.records = [.done 0x22 .cancelled 0 []] := by
  decide +kernel
theorem test_cancel_issued : ((after (.cancel 1 [0x21]) busy).link.replies.map Reply.result) = [.tooLate] := by
  decide +kernel
theorem test_batch_load :
    (after (.batchLoad 1 (bs [0, 2, 2, 2, 0x0A, 0xBC, 2, 0xDE, 0xAD, 1, 1, 0, 5, 0])) State.reset).batch.state
      = .loaded items := by decide +kernel
theorem test_batch_load_second_item_field :
    ((after (.batchLoad 1 (bs [0, 2, 2, 2, 0x0A, 0xBC, 1, 0xDE, 31, 1, 0, 5, 0])) State.reset).link.replies.map
      fun r => (r.result, r.detail)) = [(.badField, 8)] := by decide +kernel
theorem test_batch_preset : (after (.batchPreset 1 [127]) State.reset).batch.preset = 127 := by decide +kernel
theorem test_batch_run_takes_preset :
    (after (.batchRun 0x31 [0]) { busy with batch := ⟨.loaded items, 3⟩, delivery.batchRes := false }).batch.preset
      = 0 := by decide +kernel
theorem test_batch_abort_issued : ((after (.batchAbort 1 []) busy).link.replies.map fun r => (r.result, r.detail))
    = [(.ok, 1)] := by decide +kernel
theorem test_batch_abort_waiting :
    (after (.batchAbort 1 []) { busy with batch.state := .running items (run1 waitingDue) }).delivery.records
      = [.pass 0x30 1 true .aborted [⟨.aborted, []⟩, ⟨.notRun, []⟩]] := by decide +kernel
theorem test_unknown_kind : ((after (.unknownKind 0x80 9 []) State.reset).link.replies.map Reply.result)
    = [.unknownKind] := by decide +kernel
theorem test_backlog_discard :
    (after .backlogDiscard { State.reset with link.restartPending := true }).link.backlog = 1 := by decide +kernel
theorem test_crc_error : (after (.crcError (bs [1, 0x11]) 0) State.reset).link.crcErrors = 1 := by decide +kernel
theorem test_format_error_stays_at_top :
    (after (.formatError .character) (inFrame { State.reset with link.formatErrors := 65535 })).link.formatErrors
      = 65535 := by decide +kernel
theorem test_format_error_while_hunting : (after (.formatError .character) State.reset).link.formatErrors = 0 := by
  decide +kernel
theorem test_inter_byte_timeout : (after .interByteTimeout (inFrame State.reset)).link.timeouts = 1 := by decide +kernel
theorem test_inter_byte_timeout_while_hunting : (after .interByteTimeout State.reset).link.timeouts = 0 := by decide +kernel
theorem test_power_on_with_pin_low : (after (.powerOnReset true true false) busy).link.boot = none := by decide +kernel
theorem test_reset_pin_assert : (after .resetPinAssert { busy with port.tx := some [1] }).port.tx = none := by
  decide +kernel
theorem test_reset_pin_release : (after (.resetPinRelease true true) { busy with link.pin := .held }).link
    = Link.atReset .baud3000000 .pin := by decide +kernel
theorem test_boot_transmit : (after .bootTransmit State.reset).link.tx
    = some ⟨.boot, bs [0xA5, 4, 0xA0, 0, 1, 2, 0x61, 0x0F]⟩ := by decide +kernel
theorem test_boot_sent : (after .bootSent (after .bootTransmit State.reset)).link.boot = none := by decide +kernel
theorem test_reply_waits_for_boot : (after .replyTransmit (after (.hello 1 []) State.reset)).link.tx = none := by
  decide +kernel
theorem test_reply_sent : (after .replySent { State.reset with
    link.tx := some ⟨.reply, []⟩, link.replies := [⟨1, .ok, 0, []⟩, ⟨2, .ok, 0, []⟩] }).link.replies
      = [⟨2, .ok, 0, []⟩] := by decide +kernel
theorem test_notice_transmit : (after .noticeTransmit { busy with
    link.boot := none, delivery.credits := 1, delivery.records := [.done 0x44 .done 0 (bs [9])] }).link.tx
      = some ⟨.notice, frameBytes 0x91 0x44 (bs [0, 0, 1, 9])⟩ := by decide +kernel
theorem test_notice_sent_overflow : (after .noticeSent { busy with
    link.tx := some ⟨.notice, []⟩, delivery.records := [.data 0 0 [.good] [unit8]]
    delivery.folded := ⟨0, 0, 0, 2⟩ }).delivery.records = [.overflow ⟨0, 0, 0, 2⟩] := by decide +kernel
theorem test_batch_room_offer : (after .batchRoomOffer { busy with
    batch.state := .running items { run1 issued with current := none, waiting := true, decided := some .trunkStopped }
    delivery.batchRes := false }).delivery.records
      = [.pass 0x30 1 true .trunkStopped [⟨.notRun, []⟩, ⟨.notRun, []⟩]] := by decide +kernel
theorem test_frame_start_wraps : (after .frameStart { busy with port.frameNo := 65535 }).port.tx
    = some (bs [0x3C, 0, 0, 0]) := by decide +kernel
theorem test_enter_running : (after .enterRunning { busyWith .starting (.marker false) with
    port.frameNo := 16, engine.queue := [] }).delivery.records = [.event (.trunk .running 16 none)] := by decide +kernel
theorem test_adoption_at_round_start : (after .adoptionAtRoundStart { busyWith .running (.marker true) with
    port.frameNo := 32, sched.adoptPending := true, sched.draft.circuits := Table.replicate 32 none }).delivery.records
      = [.event (.schedule 32 [0, 1])] := by decide +kernel
theorem test_adoption_leaves_nothing_to_adopt : (after .adoptionAtRoundStart { busyWith .running (.marker true) with
    port.frameNo := 32, sched.adoptPending := true }).port.pos = .marker false := by decide +kernel
theorem test_adopt_in_same_marker_waits : (after (.adopt 2 []) (after .adoptionAtRoundStart
    { busyWith .running (.marker true) with port.frameNo := 32, sched.adoptPending := true })).sched.adoptPending = true := by
  decide +kernel
theorem test_defer_timeout : (after .deferTimeout { busyWith .running (.marker false) with
    port.frameNo := 9, engine.queue := [⟨0x21, fetch1, waitingDue⟩] }).delivery.records
      = [.done 0x21 .timedOut 0 []] := by decide +kernel
theorem test_defer_window_not_reached : (after .deferTimeout { busyWith .running (.marker false) with
    port.frameNo := 8, engine.queue := [⟨0x21, fetch1, waitingDue⟩] }).delivery.records = [] := by decide +kernel
theorem test_batch_item_timeout : (after .batchItemTimeout { busyWith .running (.marker false) with
    port.frameNo := 9, batch.state := .running items (run1 waitingDue) }).delivery.records
      = [.pass 0x30 1 true .failedStop [⟨.timedOut, []⟩, ⟨.notRun, []⟩]] := by decide +kernel
theorem test_slot_open_out : (after .slotOpen (busyWith .running (.slotClosed 1))).port.tx.map (List.take 10)
    = some (bs [0x10, 0x81, 1, 2, 3, 4, 5, 6, 7, 8]) := by decide +kernel
theorem test_slot_open_roll_wraps : (after .slotOpen { busyWith .starting (.marker false) with
    roster.rollCursor := 29, engine.queue := [] }).port.pair = some ⟨.rollCall, 29, 0⟩ := by decide +kernel
theorem test_slot_close_done :
    (after (.slotClose (.cell ⟨0x9088, ⟨0, 0, 2, 0xAA, 0xBB, 0, 0, 0⟩, cellCheck 0x9088 ⟨0, 0, 2, 0xAA, 0xBB, 0, 0, 0⟩, true⟩ 0))
      { busyWith .running (.slotOpen 1 .listenReply) with port.pair := some ⟨.hostRecord 0x21, 0, 1⟩ }).delivery.records
      = [.done 0x21 .done 0 (bs [0xAA, 0xBB])] := by decide +kernel
theorem test_slot_close_wrong_token :
    (after (.slotClose (.cell ⟨0x9090, ⟨0, 0, 0, 0, 0, 0, 0, 0⟩, cellCheck 0x9090 Buf.zero, true⟩ 0))
      { busyWith .running (.slotOpen 1 .listenReply) with port.pair := some ⟨.hostRecord 0x21, 0, 1⟩ }).port.badCells
      = 1 := by decide +kernel
theorem test_quiet_slot_counts_each_cell :
    (after (.slotClose (.cell ⟨0, Buf.zero, 0, true⟩ 1)) (busyWith .running (.slotOpen 15 .quiet))).port.badCells = 2 := by
  decide +kernel
theorem test_cell_begins_in_quiet_slot : (meets [.trxCell, .trxCell] (busyWith .running (.slotOpen 15 .quiet))).port.badCells
    = 2 := by decide +kernel
theorem test_cell_begins_in_listen_slot : (meets [.trxCell] (busyWith .running (.slotOpen 1 .listenReply))).port.badCells
    = 0 := by decide +kernel
theorem test_tde_low_after_last_bit :
    (meets [.ttxEnd] { busyWith .running (.slotOpen 0 .sendPair) with port.tx := some [1] }).port.tx = none := by
  decide +kernel
theorem test_collision : (after .collision { busyWith .running (.marker false) with
    port.tx := some (markerBytes 4), port.streak := 1 }).port.streak = 2 := by decide +kernel
theorem test_third_collision_is_line_fault : { Port.atReset with streak := 2 }.lineFault = true := by decide +kernel
theorem test_stop_is_owed_after_last_slot :
    (after (.slotClose .silent) { busyWith .running (.slotOpen 15 .quiet) with port.stopPending := true }).owesStop
      = true := by decide +kernel

/-! ### Witnesses: states that meet the hypotheses of the statements -/

/-- A state in which every check for owed work is clear is open. -/
theorem open_of_checks {s : State} (h : (!s.held && !s.owesEntry && !s.owesAdoption && !s.owesTimeouts &&
    !s.owesItemTimeout && !s.owesStop && !s.roomOffered) = true) : s.Open := by
  simp only [Bool.and_eq_true, Bool.not_eq_true'] at h
  obtain ⟨⟨⟨⟨⟨⟨h1, h2⟩, h3⟩, h4⟩, h5⟩, h6⟩, h7⟩ := h
  exact s.open_of_nothing_owed h1 h2 h3 h4 h5 h6 h7

/-- The part at work is open wherever no marker is being sent. -/
theorem busy_open (trunk : TrunkState) (pos : FramePos) (h : pos.inMarker = false) : (busyWith trunk pos).Open :=
  State.open_of_quiet _ rfl h (by simp [busyWith, State.owesStop, Port.atReset])
    (by simp [busyWith, State.roomOffered, run1])

/-- The part at work takes requests wherever no marker is being sent. -/
theorem busy_takes (trunk : TrunkState) (pos : FramePos) (h : pos.inMarker = false) : (busyWith trunk pos).Takes :=
  ⟨busy_open trunk pos h, rfl⟩

/-- After a power-on reset a request is taken. -/
theorem reset_takes : State.reset.Takes := ⟨State.open_of_no_frames _ rfl rfl rfl, rfl⟩

/-- Configured and idle, a request is taken. -/
theorem idle_takes (trunk : TrunkState) (h : trunk.framesRun = false) : (idle trunk).Takes :=
  ⟨State.open_of_no_frames _ rfl h rfl, rfl⟩

/-- The circuits of the part at work. -/
theorem busy_circuit (trunk : TrunkState) (pos : FramePos) (id : CircuitId) (c : LiveCircuit)
    (h : (busyWith trunk pos).circuit id = some c) : (id = 0 ∧ c = outLive) ∨ (id = 1 ∧ c = inLive) := by
  have h : live.circuits.get id = some c := h
  simp only [live, Table.get_set, Table.get_replicate] at h
  split at h
  · right; simp_all
  · split at h
    · left; simp_all
    · simp at h

theorem busy_pool : busy.PoolLaw := by unfold State.PoolLaw; decide +kernel

theorem busy_accounting (trunk : TrunkState) (pos : FramePos) : (busyWith trunk pos).Accounting where
  hostRes := rfl
  batchRes := rfl
  occupancy := by simp [busyWith, Delivery.occupancy, Delivery.atReset, Config.deliveryEntries]
  records := by simp [busyWith, Config.hostRecords]
  tags := by
    have : [(0x21 : Byte), 0x22, 0x30].Perm [0x21, 0x22, 0x30] := .refl _
    exact this
  distinct := by
    have : [(0x21 : Byte), 0x22, 0x30].Nodup := by decide
    exact this
  shape := by simp [busyWith, BatchState.shape, run1]

theorem busy_marker (trunk : TrunkState) (pos : FramePos) : (busyWith trunk pos).MarkerLaw := by
  have h : busy.MarkerLaw := by unfold State.MarkerLaw; decide +kernel
  exact h

theorem busy_definitions : busy.DefinitionsLegal where
  draft := by
    intro id c h
    have h : draft.circuits.get id = some c := h
    simp only [draft, Table.get_set, Table.get_replicate] at h
    have hc : c = inDef ∨ c = outDef := by
      split at h
      · simp_all
      · split at h
        · simp_all
        · simp at h
    rcases hc with rfl | rfl
    · exact ⟨by decide, by decide, by decide, by decide, by decide, by simp [inDef]⟩
    · exact ⟨by decide, by decide, by decide, by decide, by decide, by simp [outDef]⟩
  draftPairs := ⟨by decide, by decide, by decide⟩
  live := by
    intro id c h
    rcases busy_circuit _ _ id c h with ⟨-, rfl⟩ | ⟨-, rfl⟩
    · exact ⟨by decide, by decide, by decide, by decide, by decide, by simp [outLive, outDef]⟩
    · exact ⟨by decide, by decide, by decide, by decide, by decide, by simp [inLive, inDef]⟩
  livePairs := by
    intro l h
    have h : some live = some l := h
    cases h
    exact ⟨by decide, by decide, by decide⟩

theorem witness_StepRunsFrontCommand :
    (∃ c rest s, State.pending s = c :: rest) ∧ (∃ s : State, s.pending = [] ∧ s.moments = []) ∧
      ∃ s : State, s.pending = [] ∧ s.moments = [.hrxChar (charBits 0xA5)] :=
  ⟨⟨.hello 1 [], [.slotOpen], { busy with pending := [.hello 1 [], .slotOpen] }, rfl⟩, ⟨busy, rfl, rfl⟩,
    { busy with moments := [.hrxChar (charBits 0xA5)] }, rfl, rfl⟩

theorem witness_PoolLawKept : ∃ c s t, s.PoolLaw ∧ exec c s = .next t := ⟨.purge 1 [0], busy, _, busy_pool, rfl⟩

theorem witness_AccountingKept : ∃ c s t, s.Accounting ∧ exec c s = .next t :=
  ⟨.cancel 1 [0x22], busy, _, busy_accounting _ _, rfl⟩

theorem witness_MarkerLawKept : ∃ c s t, s.Accounting ∧ s.MarkerLaw ∧ exec c s = .next t :=
  ⟨.excludeStation 1 [1], busy, _, busy_accounting _ _, busy_marker _ _, rfl⟩

theorem witness_QueueLawKept : ∃ c s t, s.QueueLaw ∧ exec c s = .next t := by
  refine ⟨.put 1 (0 :: List.replicate 16 7), busy, _, ?_, rfl⟩
  intro id c h
  rcases busy_circuit _ _ id c h with ⟨-, rfl⟩ | ⟨-, rfl⟩ <;> decide

theorem witness_RunStateLawKept : ∃ c s t, s.RunStateLaw ∧ exec c s = .next t := by
  refine ⟨.excludeStation 1 [1], busy, _, ?_, rfl⟩
  intro id c h
  rcases busy_circuit _ _ id c h with ⟨-, rfl⟩ | ⟨-, rfl⟩ <;> decide +kernel

theorem witness_UnitLawKept : ∃ c s t, s.UnitLaw ∧ exec c s = .next t := by
  refine ⟨.excludeStation 1 [1], busy, _, ?_, rfl⟩
  intro id c h
  rcases busy_circuit _ _ id c h with ⟨-, rfl⟩ | ⟨-, rfl⟩ <;> decide

theorem witness_ScheduleLawKept : ∃ c s t, s.ScheduleLaw ∧ exec c s = .next t := by
  refine ⟨.adopt 1 [], busy, _, ⟨?_, ?_⟩, rfl⟩
  · intro l h
    exact ⟨by decide, by decide +kernel⟩
  · intro h
    simp [busy, busyWith] at h

theorem witness_DefinitionsLegalKept : ∃ c s t, s.DefinitionsLegal ∧ exec c s = .next t :=
  ⟨.revert 1 [], busy, _, busy_definitions, rfl⟩

theorem witness_LinkLawKept : ∃ c s t, s.LinkLaw ∧ exec c s = .next t :=
  ⟨.credit 1 [255], busy, _, ⟨by decide, by decide⟩, rfl⟩

theorem witness_SlotHasOneUse :
    (∀ id c, draft.circuits.get id = some c → c.Legal) ∧ PairsLegal draft.pairs ∧ draft.conflict 16 = none ∧
      draft.circuits.get 0 = some outDef ∧ outDef.due 4 = true ∧ 2 ∈ outDef.slots ∧ 3 ∈ outDef.slots ∧ 0 ∈ draft.pairs :=
  ⟨busy_definitions.draft, busy_definitions.draftPairs, by decide +kernel, by decide +kernel, by decide, by decide,
    by decide, by decide⟩

/-- A row that is neither a reset nor REPLY_SENT. -/
theorem mayReset_iff (i : Instr) : MayReset i ↔
    (∃ pinLow rate1 rate0, i = .powerOnReset pinLow rate1 rate0) ∨ (∃ rate1 rate0, i = .resetPinRelease rate1 rate0) ∨
      i = .replySent := Iff.rfl

theorem witness_RecordsStayInOrder :
    (∃ c s t, exec c s = .next t ∧ ¬ MayReset c ∧ c ≠ .noticeSent) ∧ ∃ s t, exec .noticeSent s = .next t :=
  ⟨⟨.cancel 1 [0x22], busy, _, rfl, by simp [mayReset_iff], by simp⟩, busy, _, rfl⟩

/-- A notice can go out. -/
def sending : State := { busy with link.boot := none, delivery.credits := 1, delivery.records := [.done 0x44 .done 0 [9]] }

theorem sending_open : sending.Open := open_of_checks (by decide +kernel)

theorem witness_CreditsMoveOnlyByCreditAndNotice :
    (∃ c s t, s.LinkLaw ∧ exec c s = .next t ∧ ¬ MayReset c ∧ t.delivery.credits < s.delivery.credits) ∧
      ∃ c s t, s.LinkLaw ∧ exec c s = .next t ∧ ¬ MayReset c ∧ s.delivery.credits < t.delivery.credits :=
  ⟨⟨.noticeTransmit, sending, _, ⟨by decide, by decide⟩, rfl, by simp [mayReset_iff], by decide +kernel⟩,
    .credit 1 [255], busy, _, ⟨by decide, by decide⟩, rfl, by simp [mayReset_iff], by decide +kernel⟩

theorem witness_FrameNumberMoves :
    ∃ c s t, exec c s = .next t ∧ ¬ MayReset c ∧ t.port.frameNo ≠ s.port.frameNo :=
  ⟨.frameStart, { busy with port.frameNo := 65535 }, _, rfl, by simp [mayReset_iff], by decide +kernel⟩

theorem witness_CountersNeverFall : ∃ c s t, exec c s = .next t ∧ ¬ MayReset c ∧ ∀ tag, c ≠ .status tag [1] :=
  ⟨.interByteTimeout, { busy with link.timeouts := 65535 }, _, rfl, by simp [mayReset_iff], by simp⟩

theorem witness_HeldResetIgnoresRows : ∃ (c : Instr) (s : State), s.link.pin ≠ .released ∧
    (∀ a b d, c ≠ .powerOnReset a b d) ∧ ∀ a b, c ≠ .resetPinRelease a b :=
  ⟨.frameStart, { busy with link.pin := .held }, by decide, by simp, by simp⟩

theorem witness_RequestFrameDecodes : ∃ i frame, i.wellFormed = true ∧ requestFrame i = some frame :=
  ⟨.batchLoad 1 (List.replicate 252 0xA5), _, by decide +kernel, rfl⟩

theorem witness_RefusedRequestChangesNothing :
    ∃ (i : Instr) (kind tag : Byte) (payload : List Byte) (s : State), i.wellFormed = true ∧
      requestParts i = some (kind, tag, payload) ∧ s.Takes :=
  ⟨.unknownKind 0xA0 7 [1], 0xA0, 7, [1], busy, by decide, rfl, busy_takes _ _ rfl⟩

theorem witness_BacklogDiscardsGoodFrames :
    (∃ (i : Instr) (s : State), i.wellFormed = true ∧ ((requestParts i).isSome = true ∨ i = .backlogDiscard) ∧ s.Open ∧
      4 ≤ s.link.replies.length) ∧
    ∃ s : State, s.Open ∧ s.link.restartPending = true :=
  ⟨⟨.hello 1 [], { busy with link.replies := List.replicate 4 ⟨1, .ok, 0, []⟩ }, by decide, .inl rfl,
    open_of_checks (by decide +kernel), by decide⟩, { busy with link.restartPending := true },
    open_of_checks (by decide +kernel), rfl⟩

/-- FETCH of object 5 at station 1, as BATCH_LOAD carries it. -/
def fetchBytes : List Byte := bs [1, 1, 0, 5, 0]

theorem carries_fetch : CarriesItem fetchBytes := ⟨1, 1, 0, 5, 0, [], rfl, rfl⟩

theorem witness_PayloadLengthsChecked :
    (∃ s : State, s.Takes) ∧ (bs [3, 16, 0, 21, 2, 4, 1]).length ≠ 8 ∧ (List.replicate 252 (0 : Byte)).length ≠ 8 ∧
      (List.replicate 8 (0 : Byte)).length ∉ [9, 17, 25, 33] ∧
      (∀ n rest, bs [2, 0] = n :: rest → rest.length ≠ n.toNat) ∧
      (∀ st ac hi lo n rest, bs [1, 1, 0, 5, 1] = st :: ac :: hi :: lo :: n :: rest → rest.length ≠ n.toNat) ∧
      CarriesItem fetchBytes ∧ [fetchBytes].length = (1 : Byte).toNat ∧ 2 ≤ (bs [1, 1]).length ∧
      ([fetchBytes].length < (2 : Byte).toNat ∧
        ∀ item more, bs [2, 2, 0, 5, 4, 1, 2, 3] = item ++ more → ¬ CarriesItem item) := by
  refine ⟨⟨busy, busy_takes _ _ rfl⟩, by decide, by rw [List.length_replicate]; decide, by decide, ?_, ?_,
    carries_fetch, by decide, by decide, by decide, ?_⟩
  · intro n rest h
    simp [bs] at h
    obtain ⟨rfl, rfl⟩ := h
    decide
  · intro st ac hi lo n rest h
    simp [bs] at h
    obtain ⟨-, -, -, -, rfl, rfl⟩ := h
    decide
  · rintro item more h ⟨st, ac, hi, lo, n, data, rfl, hl⟩
    simp [bs] at h
    obtain ⟨-, -, -, -, rfl, h⟩ := h
    have := congrArg List.length h
    simp [hl] at this
    omega

theorem witness_BadFramesAreCountedOrRefused :
    (∃ s, State.Takes s ∧ (Instr.unknownKind 0x7F 1 []).wellFormed = true) ∧
    (∃ s, State.Open s ∧ (Instr.crcError (bs [1, 0x11]) 0).wellFormed = true ∧
      (Instr.formatError (.illegalLen 0)).wellFormed = true) ∧
    (∃ crc, crc ≠ crc16 (frameBody 0x01 0x11 (List.replicate 60 0))) ∧
    (∃ s : State, s.Open ∧ s.link.receiver ≠ .hunting) ∧ (∃ s : State, s.Open ∧ s.link.receiver = .hunting) ∧
    (∀ r : Receiver, ∃ s : State, s.held = false ∧ s.pending = [] ∧ s.moments = [.hrxChar (charBits 0xDD)] ∧
      s.link.receiver = r) ∧
    bs [0x02, 0x01, 0x11, 0x93] = 2 :: 0x01 :: 0x11 :: ([] ++ [0x93]) ∧
    crc16 (bs [0x02, 0x01, 0x11]) = (0x93 : Byte) ++ (0xDD : Byte) ∧
    ((0b0101001010#10).getLsbD 0 = false ∧ (0b0101001010#10).getLsbD 9 = false) ∧
    ∃ s : State, s.held = false ∧ s.pending = [] ∧ s.moments = [.hrxGap] :=
  ⟨⟨busy, busy_takes _ _ rfl, by decide⟩, ⟨busy, busy_open _ _ rfl, by decide +kernel, by decide⟩,
    ⟨0, by decide +kernel⟩, ⟨inFrame busy, State.open_of_quiet _ rfl rfl rfl rfl, by decide⟩,
    ⟨busy, busy_open _ _ rfl, rfl⟩,
    fun r => ⟨{ busy with moments := [.hrxChar (charBits 0xDD)], link.receiver := r }, rfl, rfl, rfl, rfl⟩, rfl,
    by decide +kernel, ⟨rfl, rfl⟩, { busy with moments := [.hrxGap] }, rfl, rfl, rfl⟩

theorem witness_HelloAnswers : ∃ s : State, s.Takes := ⟨State.reset, reset_takes⟩

theorem witness_StatusReportsThenClears : ∃ s : State, s.Takes := ⟨busy, busy_takes _ _ rfl⟩

theorem witness_CreditAddsSaturating : ∃ s : State, s.Takes ∧ s.delivery.credits = 255 :=
  ⟨{ idle .ready with delivery.credits := 255 }, ⟨State.open_of_no_frames _ rfl rfl rfl, rfl⟩, rfl⟩

theorem witness_RestartThenSoftReset : ∃ (f : List Byte) (r : Reply) (s : State), s.Open ∧
    s.link.tx = some ⟨.reply, f⟩ ∧ s.link.replies = [r] ∧ s.link.restartPending = true :=
  ⟨[], ⟨1, .ok, 0, []⟩, { busy with
    link.tx := some ⟨.reply, []⟩, link.replies := [⟨1, .ok, 0, []⟩], link.restartPending := true },
    open_of_checks (by decide +kernel), rfl, rfl, rfl⟩

theorem witness_ConfigureInstallsRecord : ∃ (code slots hi lo miss loss retry window : Byte) (rate : BitRate)
    (bits : Nat) (s : State), s.Takes ∧
    (code.toNat, rate, bits) ∈ [(1, BitRate.mbit2, 20), (2, .mbit5, 50), (3, .mbit10, 100)] ∧
    16 ≤ slots.toNat ∧ slots.toNat ≤ 64 ∧ 10 ≤ hi.toNat * 256 + lo.toNat ∧ hi.toNat * 256 + lo.toNat ≤ 2000 ∧
    32 + 128 * slots.toNat ≤ (hi.toNat * 256 + lo.toNat) * bits ∧ 1 ≤ miss.toNat ∧ miss.toNat ≤ 15 ∧
    miss.toNat < loss.toNat ∧ retry.toNat ≤ 7 ∧ window ≠ 0 :=
  ⟨3, 16, 0, 21, 15, 16, 7, 1, .mbit10, 100, idle .ready, idle_takes _ rfl, by decide⟩

theorem witness_ConfigureRefusesFirstBadField : ∃ s : State, s.Takes ∧
    [decide (1 ≤ (3 : Byte).toNat ∧ (3 : Byte).toNat ≤ 3), decide (16 ≤ (64 : Byte).toNat ∧ (64 : Byte).toNat ≤ 64),
      decide (10 ≤ 0 * 256 + (82 : Byte).toNat ∧ 0 * 256 + (82 : Byte).toNat ≤ 2000 ∧
        32 + 128 * (64 : Byte).toNat ≤ (0 * 256 + (82 : Byte).toNat) * 100)].findIdx? (· == false) = some 2 :=
  ⟨busy, busy_takes _ _ rfl, by decide⟩

theorem witness_StartArmsFrameZero :
    (∃ s : State, s.Takes ∧ s.port.trunk = .ready ∧ s.sched.live.isSome = true) ∧ ∃ s : State, s.Takes ∧ s.port.trunk = .off :=
  ⟨⟨idle .ready, idle_takes _ rfl, rfl, rfl⟩, State.reset, reset_takes, rfl⟩

theorem witness_StopByTrunkState :
    (∃ s : State, s.Takes ∧ s.port.trunk = .off) ∧ (∃ s : State, s.Takes ∧ s.port.trunk = .ready) ∧
      (∃ s : State, s.Takes ∧ s.port.trunk = .halted) ∧
      ∃ s : State, s.Takes ∧ s.port.trunk.framesRun = true ∧ s.port.pos ≠ .idle :=
  ⟨⟨State.reset, reset_takes, rfl⟩, ⟨idle .ready, idle_takes _ rfl, rfl⟩, ⟨idle .halted, idle_takes _ rfl, rfl⟩,
    busyWith .starting (.slotClosed 0), busy_takes _ _ rfl, rfl, by decide⟩

/-- The books do not look at a pending adoption. -/
theorem accounting_adopting {s : State} (h : s.Accounting) : { s with sched.adoptPending := true }.Accounting :=
  ⟨h.hostRes, h.batchRes, h.occupancy, h.records, h.tags, h.distinct, h.shape⟩

theorem witness_FramesStopByStop :
    (∃ s : State, s.Accounting ∧ s.MarkerLaw ∧ s.port.trunk.framesRun = true ∧ s.Takes ∧ s.port.pos = .idle ∧
      s.sched.adoptPending = false) ∧
    (∃ s : State, s.Accounting ∧ s.MarkerLaw ∧ s.port.trunk.framesRun = true ∧ s.Takes ∧ s.port.pos = .idle ∧
      s.sched.adoptPending = true) ∧
    (∃ d e f : Delivery, d.occupancy + 2 ≤ Config.deliveryEntries ∧ e.occupancy + 1 = Config.deliveryEntries ∧
      Config.deliveryEntries ≤ f.occupancy) ∧
    ∃ s : State, s.Accounting ∧ s.MarkerLaw ∧ s.port.trunk.framesRun = true ∧ s.held = false ∧ s.owesStop = true :=
  ⟨⟨busy, busy_accounting _ _, busy_marker _ _, rfl, busy_takes _ _ rfl, rfl, rfl⟩,
    ⟨{ busy with sched.adoptPending := true }, busy_accounting .running .idle |> accounting_adopting,
      busy_marker .running .idle, rfl, ⟨open_of_checks (by decide +kernel), rfl⟩, rfl, rfl⟩,
    ⟨Delivery.atReset, { Delivery.atReset with records := List.replicate 127 (.overflow Folded.zero) },
      { Delivery.atReset with records := List.replicate 128 (.overflow Folded.zero) }, by decide, by decide +kernel,
      by decide +kernel⟩,
    { busy with port.stopPending := true },
    ⟨rfl, rfl, (busy_accounting .running .idle).occupancy, (busy_accounting .running .idle).records,
      (busy_accounting .running .idle).tags, (busy_accounting .running .idle).distinct,
      (busy_accounting .running .idle).shape⟩, busy_marker .running .idle, rfl, rfl, rfl⟩

theorem witness_DefineCircuitStores :
    (∃ s : State, s.Takes ∧ s.sched.adoptPending = false) ∧ (∃ s : State, s.Takes ∧ s.sched.adoptPending = true) ∧
      outDef.Legal ∧ outDef.slots = ([(2 : Byte), 3, 63, 0].take outDef.slots.length).map BitVec.toNat ∧
      defineFault (bs [31, 1, 31, 16, 15, 2, 62, 63, 9, 9, 8, 0]) = none ∧
      [decide ((31 : Byte).toNat ≤ 31), decide ((1 : Byte) = 1 ∨ (1 : Byte) = 2),
        decide (1 ≤ (32 : Byte).toNat ∧ (32 : Byte).toNat ≤ 31 ∧ ((32 : Byte) = 31 → (1 : Byte) = 1))].findIdx?
          (· == false) = some 2 :=
  ⟨⟨busy, busy_takes _ _ rfl, rfl⟩, ⟨{ busy with sched.adoptPending := true }, ⟨open_of_checks (by decide +kernel), rfl⟩, rfl⟩,
    busy_definitions.draft 0 outDef (by decide +kernel), by decide, by decide, by decide⟩

theorem witness_DraftEdits : (∃ s : State, s.Takes) ∧ bs [0, 62] ≠ [] ∧ PairsLegal ((bs [0, 62]).map BitVec.toNat) ∧
    (bs [0, 2, 3]).length = (3 : Byte).toNat ∧
    (decide (1 ≤ (3 : Byte).toNat ∧ (3 : Byte).toNat ≤ 16) :: (List.range (bs [0, 2, 3]).length).map fun i =>
      decide (((bs [0, 2, 3]).getD i 0).toNat ≤ 62 ∧ (0 < i →
        ((bs [0, 2, 3]).getD (i - 1) 0).toNat + 2 ≤ ((bs [0, 2, 3]).getD i 0).toNat))).findIdx? (· == false) = some 3 :=
  ⟨⟨busy, busy_takes _ _ rfl⟩, by decide, ⟨by decide, by decide, by decide⟩, by decide, by decide⟩

/-- Two circuits. -/
def two (a b : CircuitDef) : Table (Option CircuitDef) 32 := ((Table.replicate 32 none).set 0 (some a)).set 1 (some b)

theorem two_get {a b c : CircuitDef} {id : CircuitId} (h : (two a b).get id = some c) : c = a ∨ c = b := by
  simp only [two, Table.get_set, Table.get_replicate] at h
  split at h
  · simp_all
  · split at h <;> simp_all

/-- The part at work with another draft of two circuits. -/
def drafting (a b : CircuitDef) : State := { busy with sched.draft := ⟨two a b, [0]⟩ }

theorem drafting_takes (a b : CircuitDef) : (drafting a b).Takes := ⟨State.open_of_quiet _ rfl rfl rfl rfl, rfl⟩

theorem drafting_legal {a b : CircuitDef} (ha : a.Legal) (hb : b.Legal) : (drafting a b).DefinitionsLegal :=
  ⟨fun _ _ h => by rcases two_get h with rfl | rfl <;> assumption, busy_definitions.draftPairs, busy_definitions.live,
    busy_definitions.livePairs⟩

theorem outDef_legal (slots : List Nat) (hw : 1 ≤ slots.length ∧ slots.length ≤ 4) (hs : ∀ k ∈ slots, k ≤ 63)
    (ha : slots.Pairwise (· < ·)) : ({ outDef with slots := slots } : CircuitDef).Legal :=
  ⟨by simp [outDef], by simp [outDef], hw, hs, ha, by simp [outDef]⟩

theorem inDef_legal (slots : List Nat) (hw : 1 ≤ slots.length ∧ slots.length ≤ 4) (hs : ∀ k ∈ slots, k ≤ 63)
    (ha : slots.Pairwise (· < ·)) : ({ inDef with slots := slots } : CircuitDef).Legal :=
  ⟨by simp [inDef], by simp [inDef], hw, hs, ha, by simp [inDef]⟩

/-- The slots that a draft of two circuits uses. -/
theorem two_uses {a b : CircuitDef} {k : Nat} (h : Draft.CircuitUses k ⟨two a b, [0]⟩) : k ∈ a.slots ∨ k ∈ b.slots := by
  obtain ⟨id, c, h, hk⟩ := h
  rcases two_get h with rfl | rfl
  · exact .inl hk
  · exact .inr hk

/-- The slots of the one pair. -/
theorem pair_uses {a b : CircuitDef} {k : Nat} (h : Draft.PairUses k ⟨two a b, [0]⟩) : k = 0 ∨ k = 1 := by
  simpa [Draft.PairUses] using h

/-- Each of the four checks of R35 to R37 has a draft that fails it and passes those before it. -/
theorem witness_AdoptChecksAndPends_details :
    (∃ s : State, s.Takes ∧ s.port.trunk ≠ .off ∧ s.sched.adoptPending = false ∧ s.DefinitionsLegal ∧ s.sched.draft.pairs = []) ∧
    (∃ s : State, s.Takes ∧ s.port.trunk ≠ .off ∧ s.sched.adoptPending = false ∧ s.DefinitionsLegal ∧
      s.sched.draft.pairs ≠ [] ∧
      Lowest (fun k => s.cfg.slots ≤ k ∧ (s.sched.draft.PairUses k ∨ s.sched.draft.CircuitUses k)) 16) ∧
    (∃ s : State, s.Takes ∧ s.port.trunk ≠ .off ∧ s.sched.adoptPending = false ∧ s.DefinitionsLegal ∧
      s.sched.draft.pairs ≠ [] ∧ (∀ k, ¬ (s.cfg.slots ≤ k ∧ (s.sched.draft.PairUses k ∨ s.sched.draft.CircuitUses k))) ∧
      Lowest (fun k => s.sched.draft.PairUses k ∧ s.sched.draft.CircuitUses k) 0) ∧
    ∃ s : State, s.Takes ∧ s.port.trunk ≠ .off ∧ s.sched.adoptPending = false ∧ s.DefinitionsLegal ∧
      s.sched.draft.pairs ≠ [] ∧ (∀ k, ¬ (s.cfg.slots ≤ k ∧ (s.sched.draft.PairUses k ∨ s.sched.draft.CircuitUses k))) ∧
      (∀ k, ¬ (s.sched.draft.PairUses k ∧ s.sched.draft.CircuitUses k)) ∧
      Lowest (fun k => s.sched.draft.Collides k) 3 := by
  refine ⟨⟨{ busy with sched.draft.pairs := [] }, ⟨State.open_of_quiet _ rfl rfl rfl rfl, rfl⟩, by decide, rfl,
      ⟨busy_definitions.draft, ⟨by decide, by decide, by decide⟩, busy_definitions.live, busy_definitions.livePairs⟩, rfl⟩,
    ⟨drafting { outDef with slots := [2, 16] } inDef, drafting_takes _ _, by decide, rfl,
      drafting_legal (outDef_legal _ (by decide) (by decide) (by decide)) (inDef_legal [4] (by decide) (by decide) (by decide)),
      by decide, ⟨by decide, .inr ⟨0, _, rfl, by decide⟩⟩, fun j hj h => absurd h.1 (Nat.not_le.mpr hj)⟩,
    ⟨drafting { outDef with slots := [0, 3] } inDef, drafting_takes _ _, by decide, rfl,
      drafting_legal (outDef_legal _ (by decide) (by decide) (by decide)) (inDef_legal [4] (by decide) (by decide) (by decide)),
      by decide, ?_, ⟨⟨0, by decide, .inl rfl⟩, 0, _, rfl, by decide⟩, fun j hj => absurd hj (by omega)⟩,
    drafting outDef { inDef with slots := [3, 4] }, drafting_takes _ _, by decide, rfl,
      drafting_legal (outDef_legal [2, 3] (by decide) (by decide) (by decide)) (inDef_legal _ (by decide) (by decide) (by decide)),
      by decide, ?_, ?_, ⟨0, 1, _, _, by decide, rfl, rfl, by decide, by decide, by decide⟩, ?_⟩
  · rintro k ⟨hk, h | h⟩
    · have := pair_uses h
      have hk : 16 ≤ k := hk
      omega
    · have := two_uses h
      have hk : 16 ≤ k := hk
      simp [inDef] at this
      omega
  · rintro k ⟨hk, h | h⟩
    · have := pair_uses h
      have hk : 16 ≤ k := hk
      omega
    · have := two_uses h
      have hk : 16 ≤ k := hk
      simp [outDef] at this
      omega
  · rintro k ⟨hp, hc⟩
    have hp := pair_uses hp
    have hc := two_uses hc
    simp [outDef] at hc
    omega
  · rintro j hj ⟨id, id', c, c', hn, hc, hc', hk, hk', -⟩
    have h1 : id = 0 ∧ c = outDef ∨ id = 1 ∧ c = { inDef with slots := [3, 4] } := by
      have hc : (two outDef { inDef with slots := [3, 4] }).get id = some c := hc
      simp only [two, Table.get_set, Table.get_replicate] at hc
      split at hc
      · simp_all
      · split at hc <;> simp_all
    have h2 : id' = 0 ∧ c' = outDef ∨ id' = 1 ∧ c' = { inDef with slots := [3, 4] } := by
      have hc' : (two outDef { inDef with slots := [3, 4] }).get id' = some c' := hc'
      simp only [two, Table.get_set, Table.get_replicate] at hc'
      split at hc'
      · simp_all
      · split at hc' <;> simp_all
    rcases h1 with ⟨rfl, rfl⟩ | ⟨rfl, rfl⟩ <;> rcases h2 with ⟨rfl, rfl⟩ | ⟨rfl, rfl⟩ <;> simp [outDef] at hn hk hk' <;> omega

theorem witness_AdoptChecksAndPends :
    (∃ s : State, s.Takes ∧ s.port.trunk = .off) ∧
    (∃ s : State, s.Takes ∧ s.port.trunk ≠ .off ∧ s.sched.adoptPending = true) ∧
    (∃ s : State, s.Takes ∧ s.port.trunk ≠ .off ∧ s.sched.adoptPending = false ∧
      s.sched.draft.conflict s.cfg.slots = some 0xFF) ∧
    ∃ s : State, s.Takes ∧ s.port.trunk.framesRun = true ∧ s.sched.adoptPending = false ∧
      s.sched.draft.conflict s.cfg.slots = none :=
  ⟨⟨State.reset, reset_takes, rfl⟩,
    ⟨{ busy with sched.adoptPending := true }, ⟨open_of_checks (by decide +kernel), rfl⟩, by decide, rfl⟩,
    ⟨{ idle .ready with sched.draft.pairs := [] }, ⟨State.open_of_no_frames _ rfl rfl rfl, rfl⟩, by decide, rfl,
      by decide +kernel⟩,
    busy, busy_takes _ _ rfl, rfl, rfl, by decide +kernel⟩

theorem witness_AdoptAtOnceTreatsEachId :
    (∃ s : State, s.Takes ∧ s.port.trunk = .ready ∧ s.sched.adoptPending = false ∧
      s.sched.draft.conflict s.cfg.slots = none) ∧
    ∃ s : State, s.Takes ∧ s.port.trunk = .halted ∧ s.sched.adoptPending = false ∧
      s.sched.draft.conflict s.cfg.slots = none :=
  ⟨⟨idle .ready, idle_takes _ rfl, rfl, rfl, by decide +kernel⟩, idle .halted, idle_takes _ rfl, rfl, rfl,
    by decide +kernel⟩

theorem witness_PutChecksAndAppends : ∃ (data : List Byte) (s : State), s.Takes ∧ data.length ∈ [8, 16, 24, 32] :=
  ⟨List.replicate 16 7, busy, busy_takes _ _ rfl, by decide⟩

theorem witness_PurgeAndReadCircuit : ∃ s : State, s.Takes := ⟨busy, busy_takes _ _ rfl⟩

/-- The part at work with station 1 in another state, nothing in progress to it. -/
def stationIn (state : StationState) : State :=
  { (idle .ready).setEntry 0 ⟨state, 0, 0, some ⟨1, 2, 3, 4⟩, false, none⟩ with engine.queue := [] }

theorem stationIn_takes (state : StationState) : (stationIn state).Takes :=
  ⟨State.open_of_no_frames _ rfl rfl rfl, rfl⟩

theorem witness_AdmitByStationState :
    (1 : Byte).toNat = (0 : StAddr).val + 1 ∧ (30 : Byte).toNat = (29 : StAddr).val + 1 ∧
      ∀ state : StationState, ∃ s : State, s.Takes ∧ (s.entry 0).state = state := by
  refine ⟨by decide, by decide, fun state => ⟨stationIn state, stationIn_takes state, ?_⟩⟩
  simp [stationIn, State.entry, State.setEntry, State.withRoster]

/-- The current item of the part at work targets station 2. -/
theorem busy_item (trunk : TrunkState) (pos : FramePos) (a : StAddr) (l : BatchList) (r : BatchRun) (c : CurrentItem)
    (h : (busyWith trunk pos).ItemAt a l r c) : a = 1 := by
  obtain ⟨hb, hc, hi⟩ := h
  have hb : BatchState.running items (run1 issued) = .running l r := hb
  injection hb with h1 h2
  subst h1 h2
  have hc : some (⟨1, issued⟩ : CurrentItem) = some c := hc
  cases hc
  have hi : some (1 : StAddr) = some a := hi
  exact (Option.some.inj hi).symm

theorem witness_ExcludeCascade :
    (∃ s : State, s.Takes ∧ (1 : Byte).toNat = (0 : StAddr).val + 1 ∧ s.Accounting ∧ s.MarkerLaw ∧
      ∀ l r c, ¬ s.ItemAt 0 l r c) ∧
    (∃ s : State, s.Takes ∧ (2 : Byte).toNat = (1 : StAddr).val + 1 ∧ s.Accounting ∧ s.MarkerLaw ∧
      s.ItemAt 1 items (run1 issued) ⟨1, issued⟩) ∧
    ∃ s : State, s.Takes ∧ (31 : Byte) ≠ 0 ∧ 30 < (31 : Byte).toNat :=
  ⟨⟨busy, busy_takes _ _ rfl, by decide, busy_accounting _ _, busy_marker _ _,
      fun l r c h => absurd (busy_item _ _ _ l r c h) (by decide)⟩,
    ⟨busy, busy_takes _ _ rfl, by decide, busy_accounting _ _, busy_marker _ _, rfl, rfl, rfl⟩,
    busy, busy_takes _ _ rfl, by decide, by decide⟩

theorem witness_ReleaseAndQuery : ∃ s : State, s.Takes ∧ (s.entry 0).state = .excluded := by
  refine ⟨stationIn .excluded, stationIn_takes _, ?_⟩
  simp [stationIn, State.entry, State.setEntry, State.withRoster]

theorem witness_TransactChecksAndAccepts : ∃ (data : List Byte) (len : Byte) (s : State), s.Takes ∧
    data.length = len.toNat ∧ data.length ≤ 247 ∧ s.port.trunk = .running ∧ s.delivery.occupancy < 128 :=
  ⟨bs [0xDE, 0xAD, 0xBE, 0xEF], 4, busy, busy_takes _ _ rfl, by decide, by decide, rfl, by decide⟩

theorem witness_CancelByRecordState :
    (∃ (target : Byte) (s : State), s.Takes ∧ ∀ r ∈ s.engine.queue, r.tag ≠ target) ∧
    ∀ a : Attempt, ∃ (before after : List HostRecord) (r : HostRecord) (s : State), s.Takes ∧
      s.engine.queue = before ++ r :: after ∧ r.tag = 0x22 ∧ (∀ q ∈ before, q.tag ≠ 0x22) ∧ r.attempt = a :=
  ⟨⟨0x30, busy, busy_takes _ _ rfl, by decide⟩, fun a => ⟨[⟨0x21, fetch1, issued⟩], [], ⟨0x22, fetch1, a⟩,
    { busy with engine.queue := [⟨0x21, fetch1, issued⟩, ⟨0x22, fetch1, a⟩] },
    ⟨State.open_of_quiet _ rfl rfl rfl rfl, rfl⟩, rfl, rfl, by decide, rfl⟩⟩

/-- The list is loaded, no run in progress. -/
def loaded : State := { busy with batch.state := .loaded items, delivery.batchRes := false, link.tags := [0x21, 0x22] }

theorem loaded_takes : loaded.Takes := ⟨State.open_of_quiet _ rfl rfl rfl rfl, rfl⟩

theorem items_legal : items.Legal := by
  refine ⟨by decide, by decide, ?_⟩
  intro r hr
  rcases (by simpa [items] using hr : r = store2 ∨ r = fetch1) with rfl | rfl
  · exact ⟨by decide, by decide⟩
  · exact (rfl : fetch1.data = [])

theorem witness_BatchLoadAndPreset :
    items.Legal ∧ (∃ s : State, s.Takes ∧ ∃ l r, s.batch.state = .running l r) ∧
    (CarriesItem fetchBytes ∧ [fetchBytes].length = (1 : Byte).toNat ∧
      (decide ((0 : Byte) = 0 ∨ (0 : Byte) = 1) :: decide (1 ≤ (1 : Byte).toNat ∧ (1 : Byte).toNat ≤ 15) ::
        ([fetchBytes].flatMap itemTests ++ (bs [128]).map fun n => decide (n.toNat ≤ 127 ∧ (n = 0 → (0 : Nat) ≠ 0)))).findIdx?
          (· == false) = some 7) ∧
    (∃ s : State, s.Takes ∧ s.batch.preset = 0 ∧ (∀ l r, s.batch.state ≠ .running l r) ∧ s.port.trunk ≠ .running) ∧
    ∃ s : State, s.Takes ∧ (∀ l r, s.batch.state ≠ .running l r) ∧ s.port.trunk = .running ∧ (0x31 : Byte) ∉ s.link.tags ∧
      { s with batch.state := .loaded items }.Takes :=
  ⟨items_legal, ⟨busy, busy_takes _ _ rfl, items, run1 issued, rfl⟩, ⟨carries_fetch, by decide, by decide⟩,
    ⟨idle .ready, idle_takes _ rfl, rfl, by intro l r h; simp [idle, State.reset, BatchUnit.atReset] at h, by decide⟩,
    loaded, loaded_takes, by intro l r h; simp [loaded] at h, rfl, by decide,
    State.open_of_quiet _ rfl rfl rfl rfl, rfl⟩

theorem witness_BatchRunStartsPassOne :
    (∃ s : State, s.Takes ∧ s.batch.preset = 0) ∧
    (∃ s : State, s.Takes ∧ s.batch.state = .loaded items ∧ s.port.trunk = .running ∧ (0x31 : Byte) ∉ s.link.tags ∧
      s.delivery.occupancy < 128 ∧ (s.entry store2.station).state.unavailable = false ∧
      items.items = [] ++ store2 :: [fetch1]) ∧
    (∃ s : State, s.Takes ∧ s.batch.state = .loaded items ∧ s.port.trunk = .running ∧ (0x31 : Byte) ∉ s.link.tags ∧
      128 ≤ s.delivery.occupancy) ∧
    (∃ s : State, s.Takes ∧ s.batch.state = .loaded items ∧ s.port.trunk = .running ∧ (0x31 : Byte) ∉ s.link.tags ∧
      s.delivery.occupancy < 128 ∧ items.policy = .stop ∧ (s.entry store2.station).state.unavailable = true) ∧
    ∃ s : State, s.Takes ∧ s.batch.state = .loaded { items with policy := .continue_ } ∧ s.port.trunk = .running ∧
      (0x31 : Byte) ∉ s.link.tags ∧ s.Accounting ∧ ∀ it ∈ items.items, (s.entry it.station).state.unavailable = true := by
  refine ⟨⟨loaded, loaded_takes, rfl⟩,
    ⟨loaded, loaded_takes, rfl, rfl, by decide, by decide, by decide +kernel, rfl⟩,
    ⟨{ loaded with delivery.records := List.replicate 126 (.overflow Folded.zero) },
      ⟨State.open_of_quiet _ rfl rfl rfl rfl, rfl⟩, rfl, rfl, by decide, by decide +kernel⟩,
    ⟨loaded.setEntry 1 ⟨.lost, 0, 0, none, false, none⟩, ⟨State.open_of_quiet _ rfl rfl rfl rfl, rfl⟩, rfl, rfl, by decide,
      by decide, rfl, by decide +kernel⟩,
    { loaded with batch.state := .loaded { items with policy := .continue_ }, roster := Roster.atReset },
      ⟨State.open_of_quiet _ rfl rfl rfl rfl, rfl⟩, rfl, rfl, by decide, ?_, by decide +kernel⟩
  exact ⟨rfl, rfl, by decide, by decide, by
    have : [(0x21 : Byte), 0x22].Perm [0x21, 0x22] := .refl _
    exact this, by
    have : [(0x21 : Byte), 0x22].Nodup := by decide
    exact this, trivial⟩

/-- The part at work with another run record. -/
def running (r : BatchRun) : State := { busy with batch.state := .running items r, delivery.batchRes := !r.waiting }

/-- A pass that waits for room: an open state while the delivery queue is full. -/
def waitingFull (decided : Option EndCause) : State := { busy with
  batch.state := .running items { run1 issued with current := none, waiting := true, decided := decided }
  delivery.records := List.replicate 126 (.overflow Folded.zero), delivery.batchRes := false }

theorem witness_BatchAbortByItem :
    (∃ s : State, s.Takes ∧ ∀ l r, s.batch.state ≠ .running l r) ∧
    (∃ (r : BatchRun) (s : State), s.Takes ∧ s.batch.state = .running items r ∧ r.abort = true) ∧
    (∃ (r : BatchRun) (s : State), s.Takes ∧ s.batch.state = .running items r ∧ r.abort = false ∧ r.waiting = true ∧
      r.decided = none) ∧
    ∀ a : Attempt, ∃ (r : BatchRun) (s : State), s.Takes ∧ s.batch.state = .running items r ∧ r.abort = false ∧
      r.waiting = false ∧ r.current = some ⟨1, a⟩ ∧ items.item 1 = some store2 :=
  ⟨⟨loaded, loaded_takes, by intro l r h; simp [loaded] at h⟩,
    ⟨{ run1 issued with abort := true }, running { run1 issued with abort := true },
      ⟨State.open_of_quiet _ rfl rfl rfl rfl, rfl⟩, rfl, rfl⟩,
    ⟨_, waitingFull none, ⟨State.open_of_quiet _ rfl rfl rfl (by decide +kernel), rfl⟩, rfl, rfl, rfl, rfl⟩,
    fun a => ⟨run1 a, running (run1 a), ⟨State.open_of_quiet _ rfl rfl rfl rfl, rfl⟩, rfl, rfl, rfl, rfl, rfl⟩⟩

/-- The list with the policy CONTINUE. -/
def onward (l : BatchList) : BatchList := { l with policy := .continue_ }

theorem witness_BatchItemEnds :
    items.item 1 = some store2 ∧ items.item 2 = some fetch1 ∧ busy.delivery.batchRes = true ∧
      items.items.drop 1 = [] ++ fetch1 :: [] ∧ (busy.entry fetch1.station).state.unavailable = false ∧
      items.items.drop 2 = [] ∧ (run1 issued).abort = false ∧ (run1 issued).pass < (run1 issued).passes ∧
      ({ run1 issued with pass := 2 } : BatchRun).passes ≤ ({ run1 issued with pass := 2 } : BatchRun).pass ∧
      busy.delivery.occupancy < 128 ∧ items.items = store2 :: [fetch1] ∧
      (busy.entry store2.station).state.unavailable = false ∧
      ((busy.setEntry 0 ⟨.lost, 0, 0, none, false, none⟩).entry fetch1.station).state.unavailable = true ∧
      ({ busy with delivery.records := List.replicate 126 (.overflow Folded.zero) } : State).delivery.occupancy = 129 :=
  ⟨rfl, rfl, rfl, rfl, by decide +kernel, rfl, rfl, by decide, by decide, by decide, rfl, by decide +kernel,
    by decide +kernel, by decide +kernel⟩

/-- The ends of a pass whose remaining items go to unavailable stations, and the passes that follow it. -/
theorem witness_BatchItemEnds_unavailable :
    (∃ s : State, s.delivery.batchRes = true ∧ (onward items).item 1 = some store2 ∧
      (∀ b ∈ (onward items).items.drop 1, (s.entry b.station).state.unavailable = true) ∧ (onward items).policy = .continue_ ∧
      s.delivery.occupancy < 128 ∧ (onward items).items = [] ++ store2 :: [fetch1] ∧
      (s.entry store2.station).state.unavailable = false) ∧
    (∃ s : State, s.delivery.batchRes = true ∧ (onward items).item 2 = some fetch1 ∧
      (∀ b ∈ (onward items).items, (s.entry b.station).state.unavailable = true)) ∧
    ∃ s : State, s.delivery.batchRes = true ∧ items.item 2 = some fetch1 ∧ items.items.drop 2 = [] ∧ items.policy = .stop ∧
      s.delivery.occupancy < 128 ∧ (s.entry store2.station).state.unavailable = true :=
  ⟨⟨busy.setEntry 0 ⟨.lost, 0, 0, none, false, none⟩, rfl, rfl, by decide +kernel, rfl, by decide, rfl, by decide +kernel⟩,
    ⟨{ busy with roster := Roster.atReset }, rfl, rfl, by decide +kernel⟩,
    busy.setEntry 1 ⟨.lost, 0, 0, none, false, none⟩, rfl, rfl, rfl, rfl, by decide, by decide +kernel⟩

/-- A pass that waits while a place is free. -/
def waitingRoom (l : BatchList) (decided : Option EndCause) : State := { busy with
  batch.state := .running l { run1 issued with current := none, waiting := true, decided := decided }
  delivery.batchRes := false }

theorem witness_BatchRoomTaken :
    (∃ (l : BatchList) (r : BatchRun) (s : State), s.held = false ∧ s.batch.state = .running l r ∧ r.waiting = true ∧
      s.delivery.occupancy < 128 ∧ r.decided = some .aborted ∧ EndCause.aborted ≠ .complete) ∧
    (∃ (r : BatchRun) (s : State), s.held = false ∧ s.batch.state = .running items r ∧ r.waiting = true ∧
      s.delivery.occupancy < 128 ∧ r.decided = none ∧ items.items = [] ++ store2 :: [fetch1] ∧
      (s.entry store2.station).state.unavailable = false) ∧
    (∃ (r : BatchRun) (s : State), s.held = false ∧ s.batch.state = .running items r ∧ r.waiting = true ∧
      s.delivery.occupancy < 128 ∧ r.decided = none ∧ items.policy = .stop ∧
      (s.entry store2.station).state.unavailable = true) ∧
    ∃ (l : BatchList) (r : BatchRun) (s : State), s.held = false ∧ s.batch.state = .running l r ∧ r.waiting = true ∧
      s.delivery.occupancy < 128 ∧ r.decided = none ∧ l.policy = .continue_ ∧
      (∀ it ∈ l.items, (s.entry it.station).state.unavailable = true) ∧ s.delivery.batchRes = false ∧ r.pass ≤ r.passes :=
  ⟨⟨items, _, waitingRoom items (some .aborted), rfl, rfl, rfl, by decide, rfl, by decide⟩,
    ⟨_, waitingRoom items none, rfl, rfl, rfl, by decide, rfl, rfl, by decide +kernel⟩,
    ⟨_, (waitingRoom items none).setEntry 1 ⟨.lost, 0, 0, none, false, none⟩, rfl, rfl, rfl, by decide, rfl, rfl,
      by decide +kernel⟩,
    { items with policy := .continue_ }, _,
    { waitingRoom { items with policy := .continue_ } none with roster := Roster.atReset }, rfl, rfl, rfl, by decide, rfl,
    rfl, by decide +kernel, rfl, by decide⟩

theorem witness_ResetsByPowerAndPin :
    (∃ s : State, s.link.pin = .held) ∧ (∃ s : State, s.link.pin = .heldFromPowerOn) ∧ (∃ s : State, s.link.pin = .released) ∧
      ∃ s : State, s.Open :=
  ⟨⟨{ busy with link.pin := .held }, rfl⟩, ⟨{ busy with link.pin := .heldFromPowerOn }, rfl⟩, ⟨busy, rfl⟩, busy,
    busy_open _ _ rfl⟩

theorem witness_TransmitterSequence :
    (∃ s : State, s.Open ∧ s.link.tx = none ∧ s.link.boot = some .power) ∧
    (∃ s : State, s.Open ∧ s.link.tx = none ∧ s.link.boot = none ∧ s.link.replies = [⟨1, .ok, 0, []⟩]) ∧
    (∃ s : State, s.Open ∧ s.link.tx = none ∧ s.link.boot = none ∧ s.link.replies = [] ∧
      s.delivery.records = [.done 0x44 .done 0 [9]]) ∧
    (∃ s : State, s.Open ∧ s.link.tx = some ⟨.boot, []⟩) ∧
    (∃ s : State, s.Open ∧ s.link.tx = some ⟨.reply, []⟩ ∧ s.link.replies = [⟨1, .ok, 0, []⟩] ∧
      s.link.restartPending = false) ∧
    ∃ s : State, s.Open ∧ s.link.tx = some ⟨.notice, []⟩ ∧ s.delivery.records = [.data 0 0 [.good] [unit8]] :=
  ⟨⟨busy, busy_open _ _ rfl, rfl, rfl⟩,
    ⟨{ sending with link.replies := [⟨1, .ok, 0, []⟩] }, State.open_of_quiet _ rfl rfl rfl rfl, rfl, rfl, rfl⟩,
    ⟨sending, sending_open, rfl, rfl, rfl, rfl⟩,
    ⟨{ busy with link.tx := some ⟨.boot, []⟩ }, State.open_of_quiet _ rfl rfl rfl rfl, rfl⟩,
    ⟨{ busy with link.tx := some ⟨.reply, []⟩, link.replies := [⟨1, .ok, 0, []⟩] },
      State.open_of_quiet _ rfl rfl rfl rfl, rfl, rfl, rfl⟩,
    { busy with link.tx := some ⟨.notice, []⟩, delivery.records := [.data 0 0 [.good] [unit8]] },
    State.open_of_quiet _ rfl rfl rfl rfl, rfl, rfl⟩

theorem witness_FrameStartOpensFrame :
    (∃ s : State, s.Open ∧ s.port.trunk = .starting ∧ s.port.timer = .firstFrame ∧ s.port.pos = .idle ∧
      s.port.stopPending = false) ∧
    ∃ s : State, s.Open ∧ s.port.trunk = .running ∧ s.port.timer = .nextFrame ∧ s.port.pos = .idle ∧
      s.port.stopPending = false ∧ s.port.frameNo = 65535 :=
  ⟨⟨{ busyWith .starting .idle with port.timer := .firstFrame }, State.open_of_quiet _ rfl rfl rfl rfl, rfl, rfl, rfl, rfl⟩,
    { busy with port.frameNo := 65535 }, State.open_of_quiet _ rfl rfl rfl rfl, rfl, rfl, rfl, rfl, rfl⟩

theorem witness_FrameStartResponses :
    (∃ s : State, s.held = false ∧ s.port.trunk = .starting ∧ s.port.pos = .marker false ∧ s.port.frameNo = 16) ∧
    (∃ s : State, s.held = false ∧ s.port.trunk = .running ∧ s.port.pos = .marker true ∧ s.sched.adoptPending = true) ∧
    (∃ s : State, s.held = false ∧ s.port.trunk = .running ∧ s.port.pos = .marker false ∧ s.Accounting ∧
      (s.engine.queue.filter fun r => r.attempt.timedOutAt s.port.frameNo s.cfg.deferWindow) ≠ []) ∧
    ∃ (r : BatchRun) (c : CurrentItem) (s : State), s.held = false ∧ s.port.trunk = .running ∧ s.port.pos = .marker false ∧
      s.batch.state = .running items r ∧ r.current = some c ∧
      c.attempt.timedOutAt s.port.frameNo s.cfg.deferWindow = true := by
  refine ⟨⟨{ busyWith .starting (.marker false) with port.frameNo := 16 }, rfl, rfl, rfl, rfl⟩,
    ⟨{ busyWith .running (.marker true) with sched.adoptPending := true }, rfl, rfl, rfl, rfl⟩,
    ⟨{ busyWith .running (.marker false) with
        port.frameNo := 9, engine.queue := [⟨0x21, fetch1, waitingDue⟩, ⟨0x22, fetch1, Attempt.fresh⟩] }, rfl, rfl, rfl,
      ?_, by decide +kernel⟩,
    run1 waitingDue, ⟨1, waitingDue⟩, { busyWith .running (.marker false) with
      port.frameNo := 9, batch.state := .running items (run1 waitingDue) }, rfl, rfl, rfl, rfl, rfl, by decide +kernel⟩
  exact ⟨rfl, rfl, by decide, by decide, by
    have : [(0x21 : Byte), 0x22, 0x30].Perm [0x21, 0x22, 0x30] := .refl _
    exact this, by
    have : [(0x21 : Byte), 0x22, 0x30].Nodup := by decide
    exact this, by simp [busyWith, BatchState.shape, run1]⟩

/-- Slot `k` opens next: the slot before it has closed. -/
theorem opensNext (trunk : TrunkState) (j : Nat) (hr : trunk.framesRun = true) (hj : j + 1 < 16) :
    (busyWith trunk (.slotClosed j)).OpensNext (j + 1) :=
  ⟨busy_open _ _ rfl, hr, .inr ⟨j, rfl, rfl, hj⟩⟩

theorem live_gives_out : live.Gives 4 2 0 outLive 0 := by
  refine ⟨⟨by decide, by decide⟩, by decide +kernel, by decide, by decide, by decide, ?_⟩
  intro id c h hd hk
  rcases busy_circuit .running .idle id c h with ⟨rfl, -⟩ | ⟨-, rfl⟩
  · rfl
  · exact absurd hk (by decide)

theorem live_gives_in : live.Gives 4 4 1 inLive 0 := by
  refine ⟨⟨by decide, by decide⟩, by decide +kernel, by decide, by decide, by decide, ?_⟩
  intro id c h hd hk
  rcases busy_circuit .running .idle id c h with ⟨-, rfl⟩ | ⟨rfl, -⟩
  · exact absurd hk (by decide)
  · rfl

theorem witness_SlotOpensOnCircuit :
    (∃ s : State, s.OpensNext 2 ∧ s.sched.live = some live ∧ s.port.trunk = .running ∧ live.Gives s.port.frameNo 2 0 outLive 0 ∧
      outLive.run.runState = .running ∧ outLive.run.flight = none ∧ outLive.run.queue = [[unit8, Buf.zero]]) ∧
    (∃ s : State, s.OpensNext 4 ∧ s.sched.live = some live ∧ s.port.trunk = .running ∧ live.Gives s.port.frameNo 4 1 inLive 0 ∧
      inLive.run.runState = .running ∧ inLive.run.assembly = none ∧ 1 ≤ s.delivery.free) ∧
    (∃ s : State, s.OpensNext 15 ∧ s.sched.live = some live ∧ live.NoPair 15 ∧
      ∀ id c, live.circuits.get id = some c → c.defn.due s.port.frameNo = true → 15 ∉ c.defn.slots) ∧
    ∃ s : State, s.OpensNext 0 ∧ s.sched.live = none := by
  refine ⟨⟨busyWith .running (.slotClosed 1), opensNext _ 1 rfl (by decide), rfl, rfl, live_gives_out, rfl, rfl, rfl⟩,
    ⟨busyWith .running (.slotClosed 3), opensNext _ 3 rfl (by decide), rfl, rfl, live_gives_in, rfl, rfl, by decide⟩,
    ⟨busyWith .starting (.slotClosed 14), opensNext _ 14 rfl (by decide), rfl, ⟨by decide, by decide⟩, ?_⟩,
    { busyWith .starting (.marker false) with sched := Sched.atReset },
    ⟨open_of_checks (by decide +kernel), rfl, .inl ⟨false, rfl, rfl⟩⟩, rfl⟩
  intro id c h _
  rcases busy_circuit .running .idle id c h with ⟨-, rfl⟩ | ⟨-, rfl⟩ <;> decide

/-- The marker of a frame has been sent; slot 0, an OPEN slot, opens next. -/
theorem marker_opens (s : State) (h : (!s.held && !s.owesEntry && !s.owesAdoption && !s.owesTimeouts &&
    !s.owesItemTimeout && !s.owesStop && !s.roomOffered) = true) (hr : s.port.trunk.framesRun = true)
    (hp : s.port.pos = .marker false) : s.OpensNext 0 :=
  ⟨open_of_checks h, hr, .inl ⟨false, hp, rfl⟩⟩

theorem witness_SlotOpensOnPair_roster :
    (∃ s : State, s.OpensNext 1 ∧ s.sched.live = some live ∧ 1 ∉ live.pairs ∧ ∃ j ∈ live.pairs, 1 = j + 1) ∧
    (∃ s : State, s.OpensNext 0 ∧ s.sched.live = some live ∧ s.port.trunk = .starting ∧
      s.roster.FirstFrom s.roster.rollCursor RollDue 29) ∧
    ∃ s : State, s.OpensNext 0 ∧ s.sched.live = some live ∧ s.port.trunk = .running ∧ s.port.frameNo.toNat % 16 = 0 ∧
      s.port.frameNo.toNat / 16 % 2 = 1 ∧ s.roster.FirstFrom s.roster.presenceCursor PresenceDue 0 := by
  refine ⟨⟨busyWith .running (.slotClosed 0), opensNext _ 0 rfl (by decide), rfl, by decide, 0, by decide, rfl⟩,
    ⟨{ busyWith .starting (.marker false) with roster.rollCursor := 29 }, marker_opens _ (by decide +kernel) rfl rfl, rfl,
      rfl, 0, by decide, by decide, .inl (by decide +kernel), by omega⟩,
    { busyWith .running (.marker false) with
      port.frameNo := 16, roster := { Roster.atReset with
        entries := Roster.atReset.entries.set 0 ⟨.active, 0, 64, none, false, none⟩ } },
    marker_opens _ (by decide +kernel) rfl rfl, rfl, rfl, by decide, by decide, 0, by decide, by decide,
    ⟨.inl (by decide +kernel), by decide +kernel⟩, by omega⟩

/-- In frame 4, which opens no round, the pair goes by the turn marker. -/
theorem byTurn (s : State) (ht : s.port.trunk = .running) (hf : s.port.frameNo = 4) : s.ByTurn 0 live :=
  ⟨ht, fun h => by rw [hf] at h; exact absurd h (by decide)⟩

/-- Frame 4 has started; the host queue and the batch unit as given. -/
def frame4 (queue : List HostRecord) (batch : BatchState) (turn : Turn) : State := { busyWith .running (.marker false) with
  roster.entries := (Roster.atReset.entries.set 0 ⟨.active, 0, 3, none, false, none⟩).set 1 ⟨.active, 0, 3, none, false, none⟩
  engine := { Engine.atReset with queue := queue, turn := turn }, batch.state := batch }

theorem witness_SlotOpensOnPair_requesters :
    (∃ s : State, s.OpensNext 0 ∧ s.sched.live = some live ∧ 0 ∈ live.pairs ∧ s.ByTurn 0 live ∧ s.engine.turn = .host ∧
      ∃ r, s.engine.queue = [] ++ r :: [] ∧ r.Ready s ∧ r.attempt.state = .queued) ∧
    (∃ s : State, s.OpensNext 0 ∧ s.sched.live = some live ∧ s.ByTurn 0 live ∧ s.engine.turn = .host ∧
      ∃ r, s.engine.queue = [] ++ r :: [] ∧ r.Ready s ∧ r.attempt.state = .waiting ∧ r.attempt.token = some 1) ∧
    (∃ (c : CurrentItem) (s : State), s.OpensNext 0 ∧ s.sched.live = some live ∧ s.ByTurn 0 live ∧
      s.engine.turn = .batch ∧ s.BatchReady items (run1 Attempt.fresh) c store2) ∧
    (∃ s : State, s.OpensNext 0 ∧ s.sched.live = some live ∧ s.ByTurn 0 live ∧ (∀ q ∈ s.engine.queue, q.Skipped s) ∧
      ∀ b r c it, ¬ s.BatchReady b r c it) ∧
    ∃ (r : HostRecord) (s : State), s.OpensNext 0 ∧ s.sched.live = some live ∧ s.ByTurn 0 live ∧
      s.engine.queue = [] ++ r :: [] ∧ r.attempt.state = .queued ∧
      (s.entry r.request.station).state.unavailable = true ∧ s.engine.turn = .host ∧
      State.OpensNext 0 { s with
        engine.queue := [], delivery.hostRes := s.delivery.hostRes - 1
        delivery.records := s.delivery.records ++ [.done r.tag .stationUnavailable 0 []]
        link.tags := s.link.tags.erase r.tag } := by
  refine ⟨⟨frame4 [⟨0x21, fetch1, Attempt.fresh⟩] .empty .host, marker_opens _ (by decide +kernel) rfl rfl, rfl, by decide,
      byTurn _ rfl rfl, rfl, _, rfl, .inl ⟨rfl, by decide +kernel, by decide +kernel⟩, rfl⟩,
    ⟨frame4 [⟨0x21, fetch1, waitingDue⟩] .empty .host, marker_opens _ (by decide +kernel) rfl rfl, rfl, byTurn _ rfl rfl,
      rfl, _, rfl, .inr ⟨rfl, rfl⟩, rfl, rfl⟩,
    ⟨⟨1, Attempt.fresh⟩, frame4 [] (.running items (run1 Attempt.fresh)) .batch,
      marker_opens _ (by decide +kernel) rfl rfl, rfl, byTurn _ rfl rfl, rfl, rfl, rfl, rfl, rfl, rfl,
      .inl ⟨rfl, by decide +kernel⟩⟩,
    ⟨frame4 [⟨0x21, fetch1, issued⟩] .empty .host, marker_opens _ (by decide +kernel) rfl rfl, rfl, byTurn _ rfl rfl, ?_,
      ?_⟩,
    ⟨0x21, { fetch1 with station := 9 }, Attempt.fresh⟩,
    frame4 [⟨0x21, { fetch1 with station := 9 }, Attempt.fresh⟩] .empty .host, marker_opens _ (by decide +kernel) rfl rfl,
    rfl, byTurn _ rfl rfl, rfl, rfl, by decide +kernel, rfl, marker_opens _ (by decide +kernel) rfl rfl⟩
  · intro q hq
    have hq : q ∈ [(⟨0x21, fetch1, issued⟩ : HostRecord)] := hq
    rw [List.mem_singleton] at hq
    subst hq
    exact .inl rfl
  · intro b r c it h
    exact absurd h.1 (by simp [frame4])

/-- A cell of a kind from a station that meets every condition of a GOOD judgement. -/
def goodCell (kind : BitVec 4) (a : StAddr) (token : Token) (p : Buf) : SlotLine :=
  .cell ⟨packHeader kind (addrField a) token 0, p, cellCheck (packHeader kind (addrField a) token 0) p, true⟩ 0

theorem test_good_cell : judge (goodCell 9 0 1 unit8) 9 0 (some 1) = .good unit8 := by decide +kernel

/-- A slot is open. -/
theorem hasOpen (trunk : TrunkState) (k : Nat) (mode : SlotMode) (hr : trunk.framesRun = true) :
    (busyWith trunk (.slotOpen k mode)).HasOpen k mode := ⟨busy_open _ _ rfl, hr, rfl⟩

/-- The part at work, slot 4 open, with circuit 1 having another run record. -/
def slot4 (r : CircuitRun) (free : Nat) (records : List DeliveryRecord) : State :=
  { busyWith .running (.slotOpen 4 (.listenCircuit 1 0 1)) with
    sched.live := some { live with circuits := live.circuits.set 1 (some ⟨inDef, r⟩) }
    delivery.free := free, delivery.records := records }

theorem witness_SlotClosesOnCircuit_moments :
    (∃ s : State, s.held = false ∧ s.pending = [] ∧ s.moments = [.ttxEnd]) ∧
    (∃ s : State, s.held = false ∧ s.pending = [] ∧ s.moments = [.trxCell] ∧ s.port.trunk.framesRun = true ∧
      s.port.pos = .slotOpen 15 .quiet) ∧
    (∃ s : State, s.held = false ∧ s.pending = [] ∧ s.moments = [.trxCell] ∧ s.port.trunk.framesRun = false) ∧
    ∃ s : State, s.held = false ∧ s.pending = [] ∧ s.moments = [.trxCell] ∧ ∀ k, s.port.pos ≠ .slotOpen k .quiet :=
  ⟨⟨{ busy with moments := [.ttxEnd] }, rfl, rfl, rfl⟩,
    ⟨{ busyWith .running (.slotOpen 15 .quiet) with moments := [.trxCell] }, rfl, rfl, rfl, rfl, rfl⟩,
    ⟨{ idle .ready with moments := [.trxCell] }, rfl, rfl, rfl, rfl⟩,
    { busyWith .running (.slotClosed 3) with moments := [.trxCell] }, rfl, rfl, rfl, by simp [busyWith]⟩

theorem witness_SlotClosesOnCircuit :
    (∃ s : State, s.HasOpen 0 .sendPair) ∧ (∃ s : State, s.HasOpen 15 .quiet) ∧
    (∃ (s : State) (c : LiveCircuit) (f : Flight), s.HasOpen 3 (.sendCircuit 0 1) ∧ s.circuit 0 = some c ∧
      c.run.flight = some f ∧ 1 + 1 = c.defn.slots.length ∧ f.kind = .data) ∧
    (∃ (s : State) (c : LiveCircuit) (asm : Assembly), s.HasOpen 4 (.listenCircuit 1 0 1) ∧ s.circuit 1 = some c ∧
      c.run.assembly = some asm ∧ 0 + 1 = c.defn.slots.length ∧ s.delivery.occupancy = 95) ∧
    ∃ (s : State) (c : LiveCircuit) (asm : Assembly), s.HasOpen 4 (.listenCircuit 1 0 1) ∧ s.circuit 1 = some c ∧
      c.run.assembly = some asm ∧ 0 + 1 = c.defn.slots.length ∧ s.delivery.occupancy = 96 := by
  refine ⟨⟨_, hasOpen .starting 0 _ rfl⟩, ⟨_, hasOpen .running 15 _ rfl⟩,
    ⟨{ busyWith .running (.slotOpen 3 (.sendCircuit 0 1)) with
        sched.live := some { live with circuits := live.circuits.set 0 (some
          ⟨outDef, { outLive.run with flight := some ⟨.data, [unit8, unit8], 1⟩ }⟩) } }, _, _,
      ⟨State.open_of_quiet _ rfl rfl rfl rfl, rfl, rfl⟩, rfl, rfl, rfl, rfl⟩,
    ⟨slot4 { inLive.run with assembly := some ⟨some [Buf.zero], [.pending]⟩ } 509
        (List.replicate 92 (.overflow Folded.zero)), _, _,
      ⟨State.open_of_quiet _ rfl rfl rfl rfl, rfl, rfl⟩, rfl, rfl, rfl, by decide +kernel⟩,
    slot4 { inLive.run with assembly := some ⟨some [Buf.zero], [.pending]⟩ } 509
      (List.replicate 93 (.overflow Folded.zero)), _, _,
    ⟨State.open_of_quiet _ rfl rfl rfl rfl, rfl, rfl⟩, rfl, rfl, rfl, by decide +kernel⟩

theorem witness_SlotClosesOnRosterCell :
    (∃ s : State, s.HasOpen 1 .listenReply ∧ s.port.pair = none) ∧
    (∃ (line : SlotLine) (p : Buf) (s : State), s.HasOpen 1 .listenReply ∧ s.port.pair = some ⟨.rollCall, 9, 0⟩ ∧
      judge line 10 9 none = .good p ∧ (s.entry 9).state = .absent) ∧
    (∃ (line : SlotLine) (p : Buf) (s : State), s.HasOpen 1 .listenReply ∧ s.port.pair = some ⟨.rollCall, 0, 0⟩ ∧
      judge line 10 0 none = .good p ∧ (s.entry 0).state = .lost ∧ (s.entry 0).autoRejoin = true ∧
      (s.entry 0).identity.map Identity.serial = some (p.b3 ++ p.b4 ++ p.b5 ++ p.b6)) ∧
    (∃ s : State, s.HasOpen 1 .listenReply ∧ s.port.pair = some ⟨.presenceCheck, 0, 0⟩ ∧ s.Accounting ∧ s.MarkerLaw ∧
      (s.entry 0).state = .active ∧ s.cfg.lossLimit ≤ (s.entry 0).missCount + 1 ∧ ∀ l r c, ¬ s.ItemAt 0 l r c) ∧
    (∃ s : State, s.HasOpen 1 .listenReply ∧ s.port.pair = some ⟨.presenceCheck, 1, 0⟩ ∧ s.Accounting ∧ s.MarkerLaw ∧
      (s.entry 1).state = .active ∧ s.cfg.lossLimit ≤ (s.entry 1).missCount + 1 ∧
      s.ItemAt 1 items (run1 issued) ⟨1, issued⟩) ∧
    ∃ s : State, s.HasOpen 1 .listenReply ∧ s.port.pair = some ⟨.presenceCheck, 0, 0⟩ ∧ (s.entry 0).state = .active ∧
      (s.entry 0).missCount + 1 < s.cfg.lossLimit ∧ s.cfg.missThreshold ≤ (s.entry 0).missCount + 1 := by
  refine ⟨⟨_, hasOpen .running 1 _ rfl, rfl⟩,
    ⟨goodCell 10 9 0 unit8, unit8, { busyWith .starting (.slotOpen 1 .listenReply) with
        port.pair := some ⟨.rollCall, 9, 0⟩ }, ⟨State.open_of_quiet _ rfl rfl rfl rfl, rfl, rfl⟩, rfl, by decide +kernel,
      by decide +kernel⟩,
    ⟨goodCell 10 0 0 unit8, unit8, { busyWith .running (.slotOpen 1 .listenReply) with
        port.pair := some ⟨.rollCall, 0, 0⟩
        roster.entries := Roster.atReset.entries.set 0 ⟨.lost, 4, 9, some ⟨1, 2, 0x04050607, 4⟩, true, none⟩ },
      ⟨State.open_of_quiet _ rfl rfl rfl rfl, rfl, rfl⟩, rfl, by decide +kernel, by decide +kernel, by decide +kernel,
      by decide +kernel⟩,
    ⟨{ busyWith .running (.slotOpen 1 .listenReply) with
        port.pair := some ⟨.presenceCheck, 0, 0⟩
        roster.entries := (Roster.atReset.entries.set 0 ⟨.active, 3, 3, none, false, some ⟨.host, 0x21⟩⟩).set 1
          ⟨.active, 0, 3, none, false, some ⟨.batch, 0x30⟩⟩ },
      ⟨State.open_of_quiet _ rfl rfl rfl rfl, rfl, rfl⟩, rfl,
      ⟨rfl, rfl, (busy_accounting .running .idle).occupancy, (busy_accounting .running .idle).records,
        (busy_accounting .running .idle).tags, (busy_accounting .running .idle).distinct,
        (busy_accounting .running .idle).shape⟩, ?_, by decide +kernel, by decide +kernel,
      fun l r c h => absurd (busy_item .running .idle _ l r c h) (by decide)⟩,
    ⟨{ busyWith .running (.slotOpen 1 .listenReply) with
        port.pair := some ⟨.presenceCheck, 1, 0⟩
        roster.entries := (Roster.atReset.entries.set 0 ⟨.active, 0, 3, none, false, some ⟨.host, 0x21⟩⟩).set 1
          ⟨.active, 3, 3, none, false, some ⟨.batch, 0x30⟩⟩ },
      ⟨State.open_of_quiet _ rfl rfl rfl rfl, rfl, rfl⟩, rfl,
      ⟨rfl, rfl, (busy_accounting .running .idle).occupancy, (busy_accounting .running .idle).records,
        (busy_accounting .running .idle).tags, (busy_accounting .running .idle).distinct,
        (busy_accounting .running .idle).shape⟩, ?_, by decide +kernel, by decide +kernel, rfl, rfl, rfl⟩,
    { busyWith .running (.slotOpen 1 .listenReply) with
      port.pair := some ⟨.presenceCheck, 0, 0⟩
      roster.entries := Roster.atReset.entries.set 0 ⟨.active, 1, 3, none, false, none⟩ },
    ⟨State.open_of_quiet _ rfl rfl rfl rfl, rfl, rfl⟩, rfl, by decide +kernel, by decide +kernel, by decide +kernel⟩
  all_goals
    unfold State.MarkerLaw
    decide +kernel

theorem witness_SlotClosesOnAnswer :
    (∃ (line : SlotLine) (p : Buf) (before after : List HostRecord) (r : HostRecord) (s : State),
      s.HasOpen 1 .listenReply ∧ s.port.pair = some ⟨.hostRecord 0x21, 0, 1⟩ ∧
      (s.engine.queue.map HostRecord.tag).Nodup ∧ s.engine.queue = before ++ r :: after ∧ r.tag = 0x21 ∧
      r.attempt.state = .issued ∧ judge line 9 0 (some 1) = .good p ∧ p.b2.toNat ≤ 4 ∧ p.b0 = 2) ∧
    (∃ s : State, s.HasOpen 1 .listenReply ∧ s.port.pair = some ⟨.hostRecord 0x22, 0, 1⟩ ∧
      ∀ r ∈ s.engine.queue, r.tag = 0x22 → r.attempt.state ≠ .issued) ∧
    (∃ (r : BatchRun) (c : CurrentItem) (s : State), s.HasOpen 1 .listenReply ∧
      s.port.pair = some ⟨.batchItem 1 1, 1, 1⟩ ∧ s.batch.state = .running items r ∧ r.current = some c ∧ r.pass = 1 ∧
      c.index = 1 ∧ c.attempt.state = .issued ∧ judge .silent 9 1 (some 1) = .silent ∧
      c.attempt.failures + 1 ≤ s.cfg.retryLimit) ∧
    ∃ (r : BatchRun) (c : CurrentItem) (s : State), s.HasOpen 1 .listenReply ∧
      s.port.pair = some ⟨.batchItem 1 1, 1, 1⟩ ∧ s.batch.state = .running items r ∧ r.current = some c ∧ r.pass = 1 ∧
      c.index = 1 ∧ c.attempt.state = .issued ∧ s.cfg.retryLimit < c.attempt.failures + 1 :=
  ⟨⟨goodCell 9 0 1 ⟨2, 7, 4, 0, 0, 0, 0, 0⟩, ⟨2, 7, 4, 0, 0, 0, 0, 0⟩, [], [⟨0x22, fetch1, Attempt.fresh⟩],
      ⟨0x21, fetch1, issued⟩, { busyWith .running (.slotOpen 1 .listenReply) with
        port.pair := some ⟨.hostRecord 0x21, 0, 1⟩ }, ⟨State.open_of_quiet _ rfl rfl rfl rfl, rfl, rfl⟩, rfl, by decide, rfl,
      rfl, rfl, by decide +kernel, by decide, rfl⟩,
    ⟨{ busyWith .running (.slotOpen 1 .listenReply) with port.pair := some ⟨.hostRecord 0x22, 0, 1⟩ },
      ⟨State.open_of_quiet _ rfl rfl rfl rfl, rfl, rfl⟩, rfl, by decide⟩,
    ⟨run1 issued, ⟨1, issued⟩, { busyWith .running (.slotOpen 1 .listenReply) with
        port.pair := some ⟨.batchItem 1 1, 1, 1⟩ }, ⟨State.open_of_quiet _ rfl rfl rfl rfl, rfl, rfl⟩, rfl, rfl, rfl, rfl,
      rfl, rfl, rfl, by decide⟩,
    run1 { issued with failures := 1 }, ⟨1, { issued with failures := 1 }⟩,
    { busyWith .running (.slotOpen 1 .listenReply) with
      port.pair := some ⟨.batchItem 1 1, 1, 1⟩, batch.state := .running items (run1 { issued with failures := 1 }) },
    ⟨State.open_of_quiet _ rfl rfl rfl rfl, rfl, rfl⟩, rfl, rfl, rfl, rfl, rfl, rfl, by decide⟩

theorem witness_CollisionsAndLineFault :
    (∃ s : State, s.Open ∧ s.port.trunk.framesRun = true ∧ s.port.tx ≠ none ∧ s.port.hit = false ∧
      s.port.pos = .marker false ∧ s.port.collided = false ∧ s.port.streak = 1) ∧
    (∃ s : State, s.Open ∧ s.port.trunk.framesRun = true ∧ s.port.tx ≠ none ∧ s.port.hit = false ∧
      s.port.pos = .slotOpen 0 .sendPair ∧ s.port.collided = true) ∧
    (∃ s : State, s.Open ∧ s.port.trunk.framesRun = true ∧ s.port.tx ≠ none ∧ s.port.hit = false ∧
      s.port.pos = .slotOpen 0 .sendPair ∧ s.port.collided = false ∧ s.port.streak = 2 ∧ s.Accounting ∧ s.MarkerLaw ∧
      s.sched.adoptPending = true) ∧
    ∃ s : State, s.Open ∧ s.port.trunk.framesRun = true ∧ s.port.tx ≠ none ∧ s.port.hit = false ∧
      s.port.pos = .slotOpen 0 .sendPair ∧ s.port.collided = false ∧ s.port.streak = 2 ∧ s.Accounting ∧ s.MarkerLaw :=
  ⟨⟨{ busyWith .starting (.marker false) with port.tx := some (markerBytes 4), port.streak := 1 },
      open_of_checks (by decide +kernel), rfl, by simp, rfl, rfl, rfl, rfl⟩,
    ⟨{ busyWith .running (.slotOpen 0 .sendPair) with port.tx := some [], port.collided := true },
      State.open_of_quiet _ rfl rfl rfl rfl, rfl, by simp, rfl, rfl, rfl⟩,
    ⟨{ busyWith .running (.slotOpen 0 .sendPair) with port.tx := some [], port.streak := 2, sched.adoptPending := true },
      State.open_of_quiet _ rfl rfl rfl rfl, rfl, by simp, rfl, rfl, rfl, rfl,
      ⟨rfl, rfl, (busy_accounting .running .idle).occupancy, (busy_accounting .running .idle).records,
        (busy_accounting .running .idle).tags, (busy_accounting .running .idle).distinct,
        (busy_accounting .running .idle).shape⟩, busy_marker .running .idle, rfl⟩,
    { busyWith .running (.slotOpen 0 .sendPair) with port.tx := some [], port.streak := 2 },
    State.open_of_quiet _ rfl rfl rfl rfl, rfl, by simp, rfl, rfl, rfl, rfl,
    ⟨rfl, rfl, (busy_accounting .running .idle).occupancy, (busy_accounting .running .idle).records,
      (busy_accounting .running .idle).tags, (busy_accounting .running .idle).distinct,
      (busy_accounting .running .idle).shape⟩, busy_marker .running .idle⟩

end Sys2Proof.Tests
end

section
/-! What the operations inside the blocks leave as it is: one relation, kept by every operation on circuits, stations,
transactions, batch items and records. -/

namespace Sys2Proof.Machine

/-- The definitions and the open-pair list of a live schedule, as REVERT would make them the draft (R33). -/
def LiveSchedule.asDraft (l : LiveSchedule) : Draft := ⟨l.circuits.map (Option.map LiveCircuit.defn), l.pairs⟩

/-- `t` comes from `s` by work on circuits, stations, transactions, batch items and records: the port, the definitions,
the draft, the counters of the host link and of stray answers, and the model's own fields are as they were. -/
structure Inner (s t : State) : Prop where
  port : t.port = s.port
  draft : t.sched.draft = s.sched.draft
  adopting : t.sched.adoptPending = s.sched.adoptPending
  live : t.sched.live.map LiveSchedule.asDraft = s.sched.live.map LiveSchedule.asDraft
  strays : t.engine.strays = s.engine.strays
  link : t.link = { s.link with tags := t.link.tags }
  draws : t.draws = s.draws
  moments : t.moments = s.moments
  pending : t.pending = s.pending

namespace Inner

variable {s t u : State}

theorem refl (s : State) : Inner s s := ⟨rfl, rfl, rfl, rfl, rfl, rfl, rfl, rfl, rfl⟩

theorem trans (h : Inner s t) (h' : Inner t u) : Inner s u where
  port := h'.port.trans h.port
  draft := h'.draft.trans h.draft
  adopting := h'.adopting.trans h.adopting
  live := h'.live.trans h.live
  strays := h'.strays.trans h.strays
  link := by rw [h'.link, h.link]
  draws := h'.draws.trans h.draws
  moments := h'.moments.trans h.moments
  pending := h'.pending.trans h.pending

/-- Work that leaves the schedule block and the host link alone. -/
theorem of_eq (port : t.port = s.port) (sched : t.sched = s.sched) (strays : t.engine.strays = s.engine.strays)
    (link : t.link = s.link) (draws : t.draws = s.draws) (moments : t.moments = s.moments)
    (pending : t.pending = s.pending) : Inner s t :=
  ⟨port, by rw [sched], by rw [sched], by rw [sched], strays, by rw [link], draws, moments, pending⟩

end Inner

/-! ### Records, tags, stations -/

variable (s : State)

theorem State.onDelivery_inner (f : Delivery → Delivery) : Inner s (s.onDelivery f) :=
  .of_eq rfl rfl rfl rfl rfl rfl rfl

theorem State.offerEvent_inner (e : EventRecord) : Inner s (s.offerEvent e) := s.onDelivery_inner _

theorem State.stationEvent_inner (a : StAddr) (ev : StationEvent) (replaced : Bool) (i : Option Identity) :
    Inner s (s.stationEvent a ev replaced i) := s.offerEvent_inner _

theorem State.withRoster_inner (r : Roster) : Inner s (s.withRoster r) := .of_eq rfl rfl rfl rfl rfl rfl rfl

theorem State.setEntry_inner (a : StAddr) (e : StationEntry) : Inner s (s.setEntry a e) := s.withRoster_inner _

theorem State.setMarker_inner (a : StAddr) (m : Option Marker) : Inner s (s.setMarker a m) := s.setEntry_inner a _

theorem State.mapEntries_inner (f : StationEntry → StationEntry) : Inner s (s.mapEntries f) := s.withRoster_inner _

theorem State.setBatch_inner (b : BatchState) : Inner s (s.setBatch b) := .of_eq rfl rfl rfl rfl rfl rfl rfl

theorem State.setAttempt_inner (tag : Byte) (a : Attempt) : Inner s (s.setAttempt tag a) :=
  .of_eq rfl rfl rfl rfl rfl rfl rfl

theorem State.takeToken_inner (a : StAddr) (m : Marker) : Inner s (s.takeToken a m) := .of_eq rfl rfl rfl rfl rfl rfl rfl

theorem State.setTurn_inner (turn : Turn) : Inner s (s.setTurn turn) := .of_eq rfl rfl rfl rfl rfl rfl rfl

theorem State.markHostDue_inner : Inner s s.markHostDue := .of_eq rfl rfl rfl rfl rfl rfl rfl

theorem State.holdTag_inner (tag : Byte) : Inner s (s.holdTag tag) := ⟨rfl, rfl, rfl, rfl, rfl, rfl, rfl, rfl, rfl⟩


/-! ### Host records (R100, R108, R112) -/

theorem State.completeHost_inner (r : HostRecord) (o : TxnOutcome) (reason : Byte) (data : List Byte) :
    Inner s (s.completeHost r o reason data) := by
  unfold State.completeHost
  cases r.attempt.wasIssued <;> exact ⟨rfl, rfl, rfl, rfl, rfl, rfl, rfl, rfl, rfl⟩

theorem State.completeAll_inner (o : TxnOutcome) (rs : List HostRecord) (s : State) : Inner s (s.completeAll o rs) := by
  induction rs generalizing s with
  | nil => exact .refl s
  | cons r rest ih => exact (s.completeHost_inner r o 0 []).trans (ih _)

theorem State.examine_inner (rs : List HostRecord) (s : State) : Inner s (s.examine rs).1 := by
  induction rs generalizing s with
  | nil => exact .refl s
  | cons r rest ih =>
    unfold State.examine
    split
    · split
      · exact .refl s
      · exact ih s
    · exact ih s
    · split
      · exact (s.completeHost_inner r _ 0 []).trans (ih _)
      · split
        · exact .refl s
        · exact ih s

/-! ### The batch unit (R122, R123, R128, R130) -/

section
variable (l : BatchList) (r : BatchRun)

theorem State.endPass_inner (cause : EndCause) (oc : List (Option ItemOutcome)) : Inner s (s.endPass l r cause oc) := by
  unfold State.endPass
  cases finalPass cause r <;> exact ⟨rfl, rfl, rfl, rfl, rfl, rfl, rfl, rfl, rfl⟩

theorem State.holdProgress_inner (p : PassProgress) : Inner s (s.holdProgress l r p).1 := by
  cases p with
  | pendingItem i oc => exact s.setBatch_inner _
  | ended cause oc => exact s.endPass_inner l r cause oc

theorem State.startPass_inner : Inner s (s.startPass l r).1 := by
  unfold State.startPass
  split
  · exact (s.onDelivery_inner _).trans (State.holdProgress_inner _ l _ _)
  · exact s.setBatch_inner _

theorem State.runPasses_inner (n : Nat) (l : BatchList) (r : BatchRun) (s : State) : Inner s (s.runPasses n l r) := by
  induction n generalizing r s with
  | zero => exact .refl s
  | succ n ih =>
    simp only [State.runPasses]
    split
    · exact (s.startPass_inner l r).trans (ih _ _)
    · exact s.startPass_inner l r

theorem State.continueRun_inner (p : PassProgress) : Inner s (s.continueRun l r p) := by
  simp only [State.continueRun]
  split
  · exact (s.holdProgress_inner l r p).trans (State.runPasses_inner _ l _ _)
  · exact s.holdProgress_inner l r p

theorem State.endItem_inner (c : CurrentItem) (o : ItemOutcome) : Inner s (s.endItem l r c o) := by
  simp only [State.endItem]
  refine Inner.trans ?_ (State.continueRun_inner _ l r _)
  split
  · split
    · exact s.setMarker_inner _ _
    · exact .refl s
  · exact .refl s

end

theorem State.startRun_inner (l : BatchList) (tag : Byte) (k : Nat) : Inner s (s.startRun l tag k) :=
  (s.holdTag_inner tag).trans (State.runPasses_inner k l _ _)

theorem State.answerItem_inner (l : BatchList) (r : BatchRun) (c : CurrentItem) (j : Judgement) :
    Inner s (s.answerItem l r c j) := by
  unfold State.answerItem
  split
  · exact s.endItem_inner l r c _
  · exact s.endItem_inner l r c _
  · exact s.endItem_inner l r c _
  · split
    · exact s.endItem_inner l r c _
    · exact s.setBatch_inner _

theorem State.cascadeBatch_inner (a : StAddr) (o : TxnOutcome) : Inner s (s.cascadeBatch a o) := by
  unfold State.cascadeBatch
  split
  · exact .refl s
  · exact .refl s
  · split
    · exact .refl s
    · split
      · exact .refl s
      · split
        · exact s.endItem_inner _ _ _ _
        · exact .refl s

theorem State.markBatchDue_inner : Inner s s.markBatchDue := by
  unfold State.markBatchDue
  split
  · exact .refl s
  · exact .refl s
  · split
    · exact .refl s
    · exact s.setBatch_inner _

theorem State.takeRoom_inner : Inner s s.takeRoom := by
  unfold State.takeRoom
  split
  · exact .refl s
  · exact .refl s
  · split
    · exact (s.onDelivery_inner _).trans (State.endPass_inner _ _ _ _ _)
    · exact State.runPasses_inner _ _ _ s

theorem State.stopBatch_inner (o : TxnOutcome) (cause : EndCause) : Inner s (s.stopBatch o cause) := by
  unfold State.stopBatch
  split
  · exact .refl s
  · exact .refl s
  · split
    · split
      · exact .refl s
      · exact s.setBatch_inner _
    · split
      · exact s.endItem_inner _ _ _ _
      · exact .refl s

theorem State.runningFrameStart_inner : Inner s s.runningFrameStart :=
  ((s.mapEntries_inner _).trans (State.markHostDue_inner _)).trans (State.markBatchDue_inner _)

/-! ### Circuits -/

/-- The table of live circuits replaced by one with the same definitions. -/
theorem State.setLiveTable_inner (t : Table (Option LiveCircuit) 32)
    (h : t.map (Option.map LiveCircuit.defn) = s.liveTable.map (Option.map LiveCircuit.defn)) :
    Inner s (s.setLiveTable t) := by
  unfold State.setLiveTable
  cases hl : s.sched.live with
  | none => exact .refl s
  | some l =>
    have hd : (⟨t, l.pairs⟩ : LiveSchedule).asDraft = l.asDraft := by
      simp only [LiveSchedule.asDraft, h, State.liveTable, hl]
    exact ⟨rfl, rfl, rfl, by simp [hl, hd], rfl, rfl, rfl, rfl, rfl⟩

/-- A live circuit replaced by one with the same definition. -/
theorem State.setCircuit_inner {id : CircuitId} {c₀ c : LiveCircuit} (h : s.circuit id = some c₀)
    (hd : c.defn = c₀.defn) : Inner s (s.setCircuit id c) := by
  apply s.setLiveTable_inner
  apply Table.ext_get
  intro i
  rw [Table.get_map, Table.get_set, Table.get_map]
  split
  · next hi => rw [← hi, ← State.circuit_eq_liveTable, h, Option.map_some, Option.map_some, hd]
  · rfl

theorem State.rehold_inner {id : CircuitId} {c₀ c : LiveCircuit} (h : s.circuit id = some c₀)
    (hd : c.defn = c₀.defn) : Inner s (s.rehold id c) :=
  (s.onDelivery_inner _).trans (State.setCircuit_inner _ (c₀ := c₀) (by rw [← h]; exact State.circuit_congr rfl id) hd)

theorem State.raiseLoss_inner (id : CircuitId) (cause : LossCause) : Inner s (s.raiseLoss id cause) := by
  unfold State.raiseLoss
  split
  · exact .refl s
  · next c h =>
    split
    · exact .refl s
    · refine Inner.trans ?_ (State.offerEvent_inner _ _)
      exact s.setCircuit_inner h rfl

/-- Every live circuit passed through a function that keeps definitions. -/
theorem State.mapLive_inner (f : LiveCircuit → LiveCircuit) (h : ∀ c, (f c).defn = c.defn) : Inner s (s.mapLive f) := by
  refine (s.onDelivery_inner _).trans (State.setLiveTable_inner _ _ ?_)
  apply Table.ext_get
  intro i
  rw [State.liveTable_congr (t := s) rfl, Table.get_map, Table.get_map, Table.get_map, Option.map_map]
  congr 1
  exact funext h

theorem State.followStation_inner (a : StAddr) : Inner s (s.followStation a) := by
  apply s.mapLive_inner
  intro c
  split
  · exact c.follow_defn _
  · rfl

theorem State.abandonUnits_inner : Inner s s.abandonUnits := s.mapLive_inner _ LiveCircuit.abandon_defn

theorem State.beginOut_inner {id : CircuitId} {c : LiveCircuit} (h : s.circuit id = some c) :
    Inner s (s.beginOut id c) := by
  unfold State.beginOut
  split
  · exact s.rehold_inner h rfl
  · refine Inner.trans ?_ (State.raiseLoss_inner _ _ _)
    exact s.rehold_inner h rfl

theorem State.beginIn_inner {id : CircuitId} {c : LiveCircuit} (h : s.circuit id = some c) : Inner s (s.beginIn id c) := by
  simp only [State.beginIn]
  split
  · exact s.rehold_inner h rfl
  · refine Inner.trans ?_ (State.raiseLoss_inner _ _ _)
    exact s.rehold_inner h rfl

theorem State.closeOut_inner (id : CircuitId) (position : Nat) : Inner s (s.closeOut id position) := by
  unfold State.closeOut
  split
  · exact .refl s
  · next c h =>
    split
    · exact .refl s
    · split
      · split
        · exact s.rehold_inner h rfl
        · exact s.rehold_inner h rfl
      · exact s.setCircuit_inner h rfl

theorem State.decideDelivery_inner {id : CircuitId} {c : LiveCircuit} (h : s.circuit id = some c)
    (status : List SlotStatus) (bufs : List Buf) : Inner s (s.decideDelivery id c status bufs) := by
  unfold State.decideDelivery
  split
  · split
    · refine Inner.trans ?_ (State.onDelivery_inner _ _)
      exact s.setCircuit_inner h rfl
    · refine Inner.trans ?_ (State.raiseLoss_inner _ _ _)
      exact s.rehold_inner h rfl
  · exact s.rehold_inner h rfl

theorem State.endAssembly_inner (id : CircuitId) : Inner s (s.endAssembly id) := by
  unfold State.endAssembly
  split
  · exact .refl s
  · next c h => exact s.rehold_inner h rfl

theorem State.finishHeardUnit_inner (id : CircuitId) : Inner s (s.finishHeardUnit id) := by
  unfold State.finishHeardUnit
  split
  · exact .refl s
  · next c h =>
    split
    · exact .refl s
    · split
      · exact s.endAssembly_inner id
      · exact s.decideDelivery_inner h _ _

theorem State.clearCircuit_inner (id : CircuitId) (counters : Bool) : Inner s (s.clearCircuit id counters) := by
  unfold State.clearCircuit
  split
  · exact .refl s
  · next c h => exact s.setCircuit_inner h rfl

/-! ### Stations: cascades and reports (R74, R75, R81 to R84, R87) -/

theorem State.cascadeHost_inner (a : StAddr) (o : TxnOutcome) : Inner s (s.cascadeHost a o).1 := by
  simp only [State.cascadeHost]
  refine Inner.trans ?_ (State.completeAll_inner o _ _)
  split
  · exact s.completeHost_inner _ o 0 []
  · exact .refl s

/-- A station's state changes and its circuits follow. -/
theorem State.setEntry_followStation_inner (a : StAddr) (e : StationEntry) : Inner s ((s.setEntry a e).followStation a) :=
  (s.setEntry_inner a e).trans (State.followStation_inner _ a)

theorem State.loseStation_inner (a : StAddr) : Inner s (s.loseStation a) :=
  (((s.setEntry_followStation_inner a _).trans (State.cascadeHost_inner _ a _)).trans
    (State.cascadeBatch_inner _ a _)).trans (State.stationEvent_inner _ _ _ _ _)

theorem State.excludeNow_inner (a : StAddr) : Inner s (s.excludeNow a).1 :=
  ((s.setEntry_followStation_inner a _).trans (State.cascadeHost_inner _ a _)).trans (State.cascadeBatch_inner _ a _)

theorem State.heard_inner (a : StAddr) : Inner s (s.heard a) := by
  simp only [State.heard]
  split
  · exact s.setEntry_inner a _
  · exact s.setEntry_inner a _
  · exact (s.setEntry_inner a _).trans (State.stationEvent_inner _ _ _ _ _)
  all_goals exact .refl s

theorem State.countMiss_inner (a : StAddr) : Inner s (s.countMiss a) := by
  simp only [State.countMiss]
  split
  · exact (s.setEntry_inner a _).trans (State.loseStation_inner _ a)
  · split
    · exact (s.setEntry_inner a _).trans (State.stationEvent_inner _ _ _ _ _)
    · exact s.setEntry_inner a _

theorem State.missed_inner (a : StAddr) : Inner s (s.missed a) := by
  unfold State.missed
  cases (s.entry a).state
  case found | active | faulty => exact s.countMiss_inner a
  all_goals exact .refl s

theorem State.report_inner (a : StAddr) (j : Judgement) : Inner s (s.report a j) := by
  cases j with
  | good p => exact s.heard_inner a
  | bad => exact s.missed_inner a
  | silent => exact s.missed_inner a

theorem State.identified_inner (a : StAddr) (i : Identity) : Inner s (s.identified a i) := by
  have found : ∀ e b, Inner s ((s.setEntry a e).stationEvent a .found b (some i)) := fun e b =>
    (s.setEntry_inner a e).trans (State.stationEvent_inner _ _ _ _ _)
  simp only [State.identified]
  split
  · exact found _ _
  · split
    · split
      · exact (s.setEntry_followStation_inner a _).trans (State.stationEvent_inner _ _ _ _ _)
      · exact found _ _
    · exact found _ _
  all_goals exact .refl s

theorem State.rollAnswered_inner (a : StAddr) (j : Judgement) : Inner s (s.rollAnswered a j) := by
  cases j with
  | good p => exact s.identified_inner a _
  | bad => exact .refl s
  | silent => exact .refl s

/-! ### What an IN circuit does with a judgement (R63, R64) -/

theorem State.completeUnit_inner (id : CircuitId) (source : StAddr) (a : Assembly) :
    Inner s (s.completeUnit id source a) := by
  unfold State.completeUnit
  split
  · exact (s.heard_inner source).trans (State.finishHeardUnit_inner _ id)
  · exact (s.endAssembly_inner id).trans (State.missed_inner _ source)

theorem State.circuitHeard_inner (id : CircuitId) (position : Nat) (source : StAddr) (j : Judgement) :
    Inner s (s.circuitHeard id position source j) := by
  unfold State.circuitHeard
  split
  · exact .refl s
  · next c h =>
    split
    · exact .refl s
    · next a _ =>
      have judged : Inner s (s.judgeSlot id c a position j) := s.setCircuit_inner h rfl
      dsimp only
      split
      · exact judged.trans (State.completeUnit_inner _ _ _ _)
      · exact judged

end Sys2Proof.Machine
end

section
/-! What rows leave as it is outside the blocks: the frame number, the counters, the schedule as its law reads it; and the
one lemma through which every row is taken: a property that the shared operations keep is kept by all rows but those
whose own act touches it. -/

namespace Sys2Proof.Machine

/-! ### Three relations between a state and a later one -/

/-- The queue of commands stays and no counter of the line, of stray answers or of the host link falls. -/
structure Counts (s t : State) : Prop where
  pending : t.pending = s.pending
  badCells : s.port.badCells.toNat ≤ t.port.badCells.toNat
  silentSlots : s.port.silentSlots.toNat ≤ t.port.silentSlots.toNat
  collisions : s.port.collisions.toNat ≤ t.port.collisions.toNat
  strays : s.engine.strays.toNat ≤ t.engine.strays.toNat
  timeouts : s.link.timeouts.toNat ≤ t.link.timeouts.toNat
  crcErrors : s.link.crcErrors.toNat ≤ t.link.crcErrors.toNat
  formatErrors : s.link.formatErrors.toNat ≤ t.link.formatErrors.toNat
  backlog : s.link.backlog.toNat ≤ t.link.backlog.toNat

/-- Everything that the law of the schedule reads stays: configuration record, trunk state, draft, pending flag, and the
definitions and pairs of the live schedule. -/
structure SameSchedule (s t : State) : Prop where
  config : t.port.config = s.port.config
  trunk : t.port.trunk = s.port.trunk
  draft : t.sched.draft = s.sched.draft
  adopting : t.sched.adoptPending = s.sched.adoptPending
  live : t.sched.live.map LiveSchedule.asDraft = s.sched.live.map LiveSchedule.asDraft

/-- The counters do not fall and the frame number stays. -/
structure Advances (s t : State) : Prop extends Counts s t where
  frameNo : t.port.frameNo = s.port.frameNo

/-- Counters, frame number and schedule are kept. -/
structure Keeps (s t : State) : Prop extends Advances s t, SameSchedule s t

variable {s t u : State}

theorem Counts.refl (s : State) : Counts s s := ⟨rfl, le_rfl, le_rfl, le_rfl, le_rfl, le_rfl, le_rfl, le_rfl, le_rfl⟩

theorem Counts.trans (h : Counts s t) (h' : Counts t u) : Counts s u where
  pending := h'.pending.trans h.pending
  badCells := h.badCells.trans h'.badCells
  silentSlots := h.silentSlots.trans h'.silentSlots
  collisions := h.collisions.trans h'.collisions
  strays := h.strays.trans h'.strays
  timeouts := h.timeouts.trans h'.timeouts
  crcErrors := h.crcErrors.trans h'.crcErrors
  formatErrors := h.formatErrors.trans h'.formatErrors
  backlog := h.backlog.trans h'.backlog

theorem SameSchedule.trans (h : SameSchedule s t) (h' : SameSchedule t u) : SameSchedule s u where
  config := h'.config.trans h.config
  trunk := h'.trunk.trans h.trunk
  draft := h'.draft.trans h.draft
  adopting := h'.adopting.trans h.adopting
  live := h'.live.trans h.live

theorem Advances.refl (s : State) : Advances s s := ⟨.refl s, rfl⟩

theorem Advances.trans (h : Advances s t) (h' : Advances t u) : Advances s u :=
  ⟨h.toCounts.trans h'.toCounts, h'.frameNo.trans h.frameNo⟩

/-- Work that leaves the port, the host link and the stray count alone. -/
theorem Advances.of_blocks (port : t.port = s.port) (strays : t.engine.strays = s.engine.strays) (link : t.link = s.link)
    (pending : t.pending = s.pending) : Advances s t :=
  ⟨⟨pending, by rw [port], by rw [port], by rw [port], by rw [strays], by rw [link], by rw [link], by rw [link],
    by rw [link]⟩, by rw [port]⟩

/-- A port changed, its counters not falling, its frame number kept. -/
theorem State.withPort_advances {p : Port} (frameNo : p.frameNo = s.port.frameNo)
    (badCells : s.port.badCells.toNat ≤ p.badCells.toNat) (silentSlots : s.port.silentSlots.toNat ≤ p.silentSlots.toNat)
    (collisions : s.port.collisions.toNat ≤ p.collisions.toNat) : Advances s (s.withPort p) :=
  ⟨⟨rfl, badCells, silentSlots, collisions, le_rfl, le_rfl, le_rfl, le_rfl, le_rfl⟩, frameNo⟩

theorem Keeps.refl (s : State) : Keeps s s := ⟨.refl s, ⟨rfl, rfl, rfl, rfl, rfl⟩⟩

theorem Keeps.trans (h : Keeps s t) (h' : Keeps t u) : Keeps s u :=
  ⟨h.toAdvances.trans h'.toAdvances, h.toSameSchedule.trans h'.toSameSchedule⟩

theorem Inner.keeps (h : Inner s t) : Keeps s t where
  pending := h.pending
  badCells := by rw [h.port]
  silentSlots := by rw [h.port]
  collisions := by rw [h.port]
  strays := by rw [h.strays]
  timeouts := by rw [h.link]
  crcErrors := by rw [h.link]
  formatErrors := by rw [h.link]
  backlog := by rw [h.link]
  frameNo := by rw [h.port]
  config := by rw [h.port]
  trunk := by rw [h.port]
  draft := h.draft
  adopting := h.adopting
  live := h.live

/-! ### The port -/

theorem satIncIf_le (b : Bool) (c : Half) : c.toNat ≤ (satIncIf b c).toNat := by
  cases b with
  | false => exact Nat.le_refl _
  | true => exact satInc_le c

theorem satAdd_le (n : Nat) (c : Half) : c.toNat ≤ (satAdd n c).toNat := by
  have h := c.isLt
  simp only [satAdd, BitVec.toNat_ofNat]
  omega

/-- A port whose configuration, trunk state and frame number stay and whose counters do not fall. -/
structure Port.KeptBy (p q : Port) : Prop where
  config : q.config = p.config
  trunk : q.trunk = p.trunk
  frameNo : q.frameNo = p.frameNo
  badCells : p.badCells.toNat ≤ q.badCells.toNat
  silentSlots : p.silentSlots.toNat ≤ q.silentSlots.toNat
  collisions : p.collisions.toNat ≤ q.collisions.toNat

theorem State.withPort_keeps {p : Port} (h : s.port.KeptBy p) : Keeps s (s.withPort p) :=
  ⟨⟨⟨rfl, h.badCells, h.silentSlots, h.collisions, le_rfl, le_rfl, le_rfl, le_rfl, le_rfl⟩, h.frameNo⟩,
    ⟨h.config, h.trunk, rfl, rfl, rfl⟩⟩

theorem State.withPort_pos_keeps (pos : FramePos) : Keeps s (s.withPort { s.port with pos := pos }) :=
  State.withPort_keeps ⟨rfl, rfl, rfl, le_rfl, le_rfl, le_rfl⟩

theorem State.release_keeps : Keeps s (s.withPort s.port.release) :=
  State.withPort_keeps ⟨rfl, rfl, rfl, le_rfl, le_rfl, le_rfl⟩

/-- A port changed in its place, its line, its pair and its flags alone. -/
theorem Port.KeptBy.of_eq {p q : Port} (config : q.config = p.config) (trunk : q.trunk = p.trunk)
    (frameNo : q.frameNo = p.frameNo) (badCells : q.badCells = p.badCells) (silentSlots : q.silentSlots = p.silentSlots)
    (collisions : q.collisions = p.collisions) : p.KeptBy q :=
  ⟨config, trunk, frameNo, by rw [badCells], by rw [silentSlots], by rw [collisions]⟩

theorem Port.countJudgement_keptBy (j : Judgement) (b : Bool) (p : Port) : p.KeptBy (p.countJudgement j b) := by
  cases j with
  | good _ => exact .of_eq rfl rfl rfl rfl rfl rfl
  | bad => exact ⟨rfl, rfl, rfl, satInc_le _, le_rfl, le_rfl⟩
  | silent => exact ⟨rfl, rfl, rfl, le_rfl, satIncIf_le _ _, le_rfl⟩

theorem Port.countQuiet_keptBy (line : SlotLine) (p : Port) : p.KeptBy (p.countQuiet line) := by
  cases line with
  | silent => exact .of_eq rfl rfl rfl rfl rfl rfl
  | cell c later => exact ⟨rfl, rfl, rfl, satAdd_le _ _, le_rfl, le_rfl⟩

theorem Port.collide_keptBy (p : Port) : p.KeptBy p.collide := ⟨rfl, rfl, rfl, le_rfl, le_rfl, satInc_le _⟩

theorem State.countStray_keeps (j : Judgement) : Keeps s (s.countStray j) := by
  cases j with
  | good _ =>
    exact ⟨⟨⟨rfl, le_rfl, le_rfl, le_rfl, satInc_le _, le_rfl, le_rfl, le_rfl, le_rfl⟩, rfl⟩, ⟨rfl, rfl, rfl, rfl, rfl⟩⟩
  | bad => exact .refl s
  | silent => exact .refl s

/-! ### Slots open (R14, R79, R95) -/

theorem State.issueRequest_keeps (user : PairUser) (m : Marker) (r : TxnRequest) (a : Attempt) :
    Keeps s (s.issueRequest user m r a) := by
  simp only [State.issueRequest]
  split
  · exact State.withPort_keeps (.of_eq rfl rfl rfl rfl rfl rfl)
  · exact (s.takeToken_inner _ m).keeps.trans (State.withPort_keeps (.of_eq rfl rfl rfl rfl rfl rfl))

theorem State.askHost_keeps : Keeps s s.askHost.1 := by
  have ex := (State.examine_inner s.engine.queue s).keeps
  simp only [State.askHost]
  split
  · exact ((ex.trans (State.issueRequest_keeps _ _ _ _)).trans (State.setAttempt_inner _ _ _).keeps).trans
      (State.setTurn_inner _ _).keeps
  · exact ex

theorem State.askBatch_keeps : Keeps s s.askBatch.1 := by
  unfold State.askBatch
  split
  · exact ((State.issueRequest_keeps _ _ _ _).trans (State.setBatch_inner _ _).keeps).trans (State.setTurn_inner _ _).keeps
  · exact .refl s

theorem State.sendNull_keeps : Keeps s s.sendNull := State.withPort_keeps (.of_eq rfl rfl rfl rfl rfl rfl)

theorem State.sendBid_keeps (b : RosterBid) : Keeps s (s.sendBid b) := by
  cases b <;>
    exact (s.withRoster_inner _).keeps.trans (State.withPort_keeps (.of_eq rfl rfl rfl rfl rfl rfl))

theorem State.serveByTurn_keeps : Keeps s s.serveByTurn := by
  unfold State.serveByTurn
  cases s.engine.turn with
  | host =>
    dsimp only
    split
    · exact State.askHost_keeps
    · split
      · exact State.askHost_keeps.trans State.askBatch_keeps
      · exact (State.askHost_keeps.trans State.askBatch_keeps).trans State.sendNull_keeps
  | batch =>
    dsimp only
    split
    · exact State.askBatch_keeps
    · split
      · exact State.askBatch_keeps.trans State.askHost_keeps
      · exact (State.askBatch_keeps.trans State.askHost_keeps).trans State.sendNull_keeps

theorem State.arbitrate_keeps (k : Nat) : Keeps s (s.arbitrate k) := by
  unfold State.arbitrate
  split
  · split
    · exact State.sendBid_keeps _
    · exact State.sendNull_keeps
  · split
    · split
      · exact State.sendBid_keeps _
      · exact State.serveByTurn_keeps
    · exact State.serveByTurn_keeps

theorem State.sendOut_keeps (id : CircuitId) (position : Nat) (d : Dest) : Keeps s (s.sendOut id position d).1 := by
  unfold State.sendOut
  split
  · exact .refl s
  · split
    · exact .refl s
    · exact State.withPort_keeps (.of_eq rfl rfl rfl rfl rfl rfl)

theorem State.openCircuit_keeps (id : CircuitId) (position : Nat) : Keeps s (s.openCircuit id position).1 := by
  unfold State.openCircuit
  split
  · exact .refl s
  · next c h =>
    split
    · unfold State.openOut
      split
      · split
        · exact (s.beginOut_inner h).keeps.trans (State.sendOut_keeps _ _ _)
        · exact .refl s
      · exact State.sendOut_keeps _ _ _
    · unfold State.openIn
      split
      · dsimp only
        split
        · exact (s.beginIn_inner h).keeps
        · exact .refl s
      · exact .refl s

theorem State.openUse_keeps (k : Nat) : Keeps s (s.openUse k).1 := by
  unfold State.openUse
  split
  · exact State.arbitrate_keeps k
  · exact .refl s
  · exact State.openCircuit_keeps _ _
  · exact .refl s

theorem State.openNext_keeps : Keeps s s.openNext := by
  unfold State.openNext
  split
  · exact (State.release_keeps.trans (State.openUse_keeps _)).trans (State.withPort_pos_keeps _)
  · exact .refl s

/-! ### Slots close (R16 to R18) -/

theorem State.hostAnswered_keeps (tag : Byte) (a : StAddr) (j : Judgement) : Keeps s (s.hostAnswered tag a j) := by
  unfold State.hostAnswered
  split
  · exact State.countStray_keeps j
  · refine Keeps.trans ?_ (State.report_inner _ a j).keeps
    split
    · exact (s.completeHost_inner _ _ _ _).keeps
    · exact (s.completeHost_inner _ _ _ _).keeps
    · exact (s.completeHost_inner _ _ _ _).keeps
    · exact (s.setAttempt_inner _ _).keeps

theorem State.pairAnswered_keeps (p : Pair) (j : Judgement) : Keeps s (s.pairAnswered p j) := by
  unfold State.pairAnswered
  split
  · exact (s.rollAnswered_inner _ j).keeps
  · exact (s.report_inner _ j).keeps
  · exact State.hostAnswered_keeps _ _ j
  · unfold State.batchAnswered
    split
    · exact State.countStray_keeps j
    · exact ((s.answerItem_inner _ _ _ j).trans (State.report_inner _ _ j)).keeps

theorem State.closeMode_keeps (mode : SlotMode) (line : SlotLine) : Keeps s (s.closeMode mode line) := by
  cases mode with
  | sendCircuit id position => exact (s.closeOut_inner id position).keeps
  | sendPair => exact .refl s
  | listenCircuit id position source =>
    exact (State.withPort_keeps (Port.countJudgement_keptBy _ _ _)).trans (State.circuitHeard_inner _ _ _ _ _).keeps
  | listenReply =>
    simp only [State.closeMode]
    split
    · exact .refl s
    · next p _ =>
      have hk := Port.countJudgement_keptBy (p.judge line) p.user.countsSilence s.port
      refine Keeps.trans ?_ (State.pairAnswered_keeps _ _)
      exact State.withPort_keeps ⟨hk.config, hk.trunk, hk.frameNo, hk.badCells, hk.silentSlots, hk.collisions⟩
  | quiet => exact State.withPort_keeps (Port.countQuiet_keptBy _ _)

theorem State.closeNow_keeps (line : SlotLine) : Keeps s (s.closeNow line) := by
  unfold State.closeNow
  split
  · exact (State.release_keeps.trans (State.withPort_pos_keeps _)).trans (State.closeMode_keeps _ _)
  · exact .refl s

/-! ### The host link -/

/-- A host link changed, its counters not falling. -/
theorem State.withLink_keeps {l : Link} (timeouts : s.link.timeouts.toNat ≤ l.timeouts.toNat)
    (crcErrors : s.link.crcErrors.toNat ≤ l.crcErrors.toNat) (formatErrors : s.link.formatErrors.toNat ≤ l.formatErrors.toNat)
    (backlog : s.link.backlog.toNat ≤ l.backlog.toNat) : Keeps s (s.withLink l) :=
  ⟨⟨⟨rfl, le_rfl, le_rfl, le_rfl, le_rfl, timeouts, crcErrors, formatErrors, backlog⟩, rfl⟩, ⟨rfl, rfl, rfl, rfl, rfl⟩⟩

theorem State.pushReply_keeps (tag : Byte) (a : Answer) : Keeps s (s.pushReply tag a) :=
  State.withLink_keeps le_rfl le_rfl le_rfl le_rfl

theorem State.discardFrame_keeps : Keeps s s.discardFrame := State.withLink_keeps le_rfl le_rfl le_rfl (satInc_le _)

theorem State.transmit_keeps (kind : TxKind) (bytes : List Byte) : Keeps s (s.transmit kind bytes) :=
  State.withLink_keeps le_rfl le_rfl le_rfl le_rfl

theorem State.beginBoot_keeps : Keeps s s.beginBoot := by
  unfold State.beginBoot
  split
  · exact State.transmit_keeps _ _
  · exact .refl s

theorem State.beginReply_keeps : Keeps s s.beginReply := by
  unfold State.beginReply
  split
  · exact .refl s
  · exact State.transmit_keeps _ _

theorem State.beginNotice_keeps : Keeps s s.beginNotice := by
  unfold State.beginNotice
  split
  · exact .refl s
  · exact (s.onDelivery_inner _).keeps.trans (State.transmit_keeps _ _)

theorem State.endNotice_keeps : Keeps s s.endNotice :=
  (s.onDelivery_inner _).keeps.trans (State.withLink_keeps le_rfl le_rfl le_rfl le_rfl)

theorem State.assertReset_keeps : Keeps s s.assertReset :=
  ⟨⟨⟨rfl, le_rfl, le_rfl, le_rfl, le_rfl, le_rfl, le_rfl, le_rfl, le_rfl⟩, rfl⟩, ⟨rfl, rfl, rfl, rfl, rfl⟩⟩

/-! ### Properties that the shared operations keep -/

/-- A property that is kept by work inside the blocks, on slots and on the host link, by the entry into RUNNING, by an
adoption at a frame start, and by frames stopping. -/
structure KeptByShared (P : State → Prop) : Prop where
  keeps : ∀ u v, Keeps u v → P u → P v
  entry : ∀ u, u.owesEntry = true → P u → P u.enterRunning
  adoption : ∀ u, u.owesAdoption = true → P u → P u.adoptAtFrameStart
  stop : ∀ u cause, u.port.trunk.framesRun = true → P u → P (u.framesStop cause)

namespace KeptByShared

variable {P : State → Prop} (hP : KeptByShared P)
include hP

theorem inner (h : Inner s t) (hs : P s) : P t := hP.keeps s t h.keeps hs

theorem settleEntry (hs : P s) : P s.settleEntry := by
  unfold State.settleEntry
  split
  · next h => exact hP.entry s h hs
  · exact hs

theorem settleAdoption (hs : P s) : P s.settleAdoption := by
  unfold State.settleAdoption
  split
  · next h => exact hP.adoption s h hs
  · exact hs

theorem timeOutItem (hs : P s) : P s.timeOutItem := by
  unfold State.timeOutItem
  split
  · exact hP.inner (s.endItem_inner _ _ _ _) hs
  · exact hs

theorem settleTimeouts (hs : P s) : P s.settleTimeouts := by
  unfold State.settleTimeouts
  split
  · exact hP.inner (State.completeAll_inner _ _ s) hs
  · exact hs

theorem settleItemTimeout (hs : P s) : P s.settleItemTimeout := by
  unfold State.settleItemTimeout
  split
  · exact hP.timeOutItem hs
  · exact hs

/-- The responses to a frame start, in each of their six orders. -/
theorem settleInOrder (n : Nat) (hs : P s) : P (s.settleInOrder n) := by
  unfold State.settleInOrder
  split
  · exact hP.settleItemTimeout (hP.settleTimeouts (hP.settleAdoption hs))
  · exact hP.settleTimeouts (hP.settleItemTimeout (hP.settleAdoption hs))
  · exact hP.settleItemTimeout (hP.settleAdoption (hP.settleTimeouts hs))
  · exact hP.settleAdoption (hP.settleItemTimeout (hP.settleTimeouts hs))
  · exact hP.settleTimeouts (hP.settleAdoption (hP.settleItemTimeout hs))
  · exact hP.settleAdoption (hP.settleTimeouts (hP.settleItemTimeout hs))

theorem withDraws (n : Nat) (hs : P s) : P (s.withDraws n) :=
  hP.keeps s _ ⟨⟨⟨rfl, le_rfl, le_rfl, le_rfl, le_rfl, le_rfl, le_rfl, le_rfl, le_rfl⟩, rfl⟩, ⟨rfl, rfl, rfl, rfl, rfl⟩⟩ hs

theorem settleFrameStart (hs : P s) : P s.settleFrameStart := by
  simp only [State.settleFrameStart]
  split
  · exact hP.settleInOrder _ (hP.withDraws _ (hP.settleEntry hs))
  · exact hP.settleEntry hs

theorem settleStop (hs : P s) : P s.settleStop := by
  unfold State.settleStop
  split
  · next h =>
    simp only [State.owesStop, Bool.and_eq_true] at h
    exact hP.stop s .stop h.1.2 hs
  · exact hs

theorem settleRoom (hs : P s) : P s.settleRoom := by
  unfold State.settleRoom
  split
  · exact hP.inner s.takeRoom_inner hs
  · exact hs

/-- The work that earlier rows have left owed (log entry 3). -/
theorem settle (hs : P s) : P s.settle := by
  unfold State.settle
  split
  · exact hs
  · exact hP.settleRoom (hP.settleStop (hP.settleFrameStart hs))

/-- A request row keeps what its owner keeps. -/
theorem takeRequest {tag : Byte} {b : Bool} {owner : State → State × Answer}
    (h : takeRequest tag b owner s = .next t) (own : ∀ u, b = true → P u → P (owner u).1) (hs : P s) : P t := by
  have settled := hP.settle hs
  obtain ⟨-, rfl⟩ | ⟨-, -, rfl⟩ | ⟨-, -, hb, rfl⟩ | ⟨-, -, -, rfl⟩ := takeRequest_cases b t h
  · exact hs
  · exact hP.keeps _ _ State.discardFrame_keeps settled
  · exact hP.keeps _ _ (State.pushReply_keeps _ _) (own _ hb settled)
  · exact hP.keeps _ _ (State.pushReply_keeps _ _) settled

/-- A request row whose owner keeps counters, frame number and schedule. -/
theorem takeRequest_keeps {tag : Byte} {b : Bool} {owner : State → State × Answer}
    (h : Machine.takeRequest tag b owner s = .next t) (own : ∀ u, Keeps u (owner u).1) (hs : P s) : P t :=
  hP.takeRequest h (fun u _ hu => hP.keeps _ _ (own u) hu) hs

/-- An event row keeps what its act keeps. -/
theorem onEvent {occasion : State → Bool} {act : State → State} (h : onEvent occasion act s = .next t)
    (acts : ∀ u, occasion u = true → P u → P (act u)) (hs : P s) : P t := by
  have settled := hP.settle hs
  obtain ⟨-, rfl⟩ | ⟨-, ho, rfl⟩ | ⟨-, -, rfl⟩ := onEvent_cases t h
  · exact hs
  · exact acts _ ho settled
  · exact settled

/-- An event row whose act keeps counters, frame number and schedule. -/
theorem onEvent_keeps {occasion : State → Bool} {act : State → State} (h : Machine.onEvent occasion act s = .next t)
    (acts : ∀ u, Keeps u (act u)) (hs : P s) : P t :=
  hP.onEvent h (fun u _ hu => hP.keeps _ _ (acts u) hu) hs

omit hP in
/-- A row that carries out owed work keeps what that work keeps. -/
theorem onOwed {owed : State → Bool} {act : State → State} (h : onOwed owed act s = .next t)
    (acts : ∀ u, owed u = true → P u → P (act u)) (hs : P s) : P t := by
  obtain ⟨-, ho, rfl⟩ | ⟨-, rfl⟩ := onOwed_cases t h
  · exact acts _ ho hs
  · exact hs

end KeptByShared

/-! ### The form of each row -/

section
variable (s : State)

@[simp] theorem exec_hello (tag : Byte) (payload : List Byte) : exec (.hello tag payload) s =
    takeRequest tag (fixedLength 0 payload) ownHello s := rfl
@[simp] theorem exec_status (tag : Byte) (payload : List Byte) : exec (.status tag payload) s =
    takeRequest tag (fixedLength 1 payload) (ownStatus payload) s := rfl
@[simp] theorem exec_restart (tag : Byte) (payload : List Byte) : exec (.restart tag payload) s =
    takeRequest tag (fixedLength 0 payload) ownRestart s := rfl
@[simp] theorem exec_credit (tag : Byte) (payload : List Byte) : exec (.credit tag payload) s =
    takeRequest tag (fixedLength 1 payload) (ownCredit payload) s := rfl
@[simp] theorem exec_configure (tag : Byte) (payload : List Byte) : exec (.configure tag payload) s =
    takeRequest tag (fixedLength 8 payload) (ownConfigure payload) s := rfl
@[simp] theorem exec_start (tag : Byte) (payload : List Byte) : exec (.start tag payload) s =
    takeRequest tag (fixedLength 0 payload) ownStart s := rfl
@[simp] theorem exec_stop (tag : Byte) (payload : List Byte) : exec (.stop tag payload) s =
    takeRequest tag (fixedLength 0 payload) ownStop s := rfl
@[simp] theorem exec_defineCircuit (tag : Byte) (payload : List Byte) : exec (.defineCircuit tag payload) s =
    takeRequest tag (fixedLength 12 payload) (ownDefineCircuit payload) s := rfl
@[simp] theorem exec_dropCircuit (tag : Byte) (payload : List Byte) : exec (.dropCircuit tag payload) s =
    takeRequest tag (fixedLength 1 payload) (ownDropCircuit payload) s := rfl
@[simp] theorem exec_setOpen (tag : Byte) (payload : List Byte) : exec (.setOpen tag payload) s =
    takeRequest tag (setOpenLength payload) (ownSetOpen payload) s := rfl
@[simp] theorem exec_adopt (tag : Byte) (payload : List Byte) : exec (.adopt tag payload) s =
    takeRequest tag (fixedLength 0 payload) ownAdopt s := rfl
@[simp] theorem exec_revert (tag : Byte) (payload : List Byte) : exec (.revert tag payload) s =
    takeRequest tag (fixedLength 0 payload) ownRevert s := rfl
@[simp] theorem exec_put (tag : Byte) (payload : List Byte) : exec (.put tag payload) s =
    takeRequest tag (putLength payload) (ownPut payload) s := rfl
@[simp] theorem exec_purge (tag : Byte) (payload : List Byte) : exec (.purge tag payload) s =
    takeRequest tag (fixedLength 1 payload) (ownPurge payload) s := rfl
@[simp] theorem exec_readCircuit (tag : Byte) (payload : List Byte) : exec (.readCircuit tag payload) s =
    takeRequest tag (fixedLength 2 payload) (ownReadCircuit payload) s := rfl
@[simp] theorem exec_admitStation (tag : Byte) (payload : List Byte) : exec (.admitStation tag payload) s =
    takeRequest tag (fixedLength 2 payload) (ownAdmit payload) s := rfl
@[simp] theorem exec_excludeStation (tag : Byte) (payload : List Byte) : exec (.excludeStation tag payload) s =
    takeRequest tag (fixedLength 1 payload) (ownExclude payload) s := rfl
@[simp] theorem exec_releaseStation (tag : Byte) (payload : List Byte) : exec (.releaseStation tag payload) s =
    takeRequest tag (fixedLength 1 payload) (ownRelease payload) s := rfl
@[simp] theorem exec_queryStation (tag : Byte) (payload : List Byte) : exec (.queryStation tag payload) s =
    takeRequest tag (fixedLength 1 payload) (ownQueryStation payload) s := rfl
@[simp] theorem exec_transact (tag : Byte) (payload : List Byte) : exec (.transact tag payload) s =
    takeRequest tag (transactLength payload) (ownTransact tag payload) s := rfl
@[simp] theorem exec_cancel (tag : Byte) (payload : List Byte) : exec (.cancel tag payload) s =
    takeRequest tag (fixedLength 1 payload) (ownCancel payload) s := rfl
@[simp] theorem exec_batchLoad (tag : Byte) (payload : List Byte) : exec (.batchLoad tag payload) s =
    takeRequest tag (batchLoadLength payload) (ownBatchLoad tag payload) s := rfl
@[simp] theorem exec_batchPreset (tag : Byte) (payload : List Byte) : exec (.batchPreset tag payload) s =
    takeRequest tag (fixedLength 1 payload) (ownBatchPreset payload) s := rfl
@[simp] theorem exec_batchRun (tag : Byte) (payload : List Byte) : exec (.batchRun tag payload) s =
    takeRequest tag (fixedLength 1 payload) (ownBatchRun tag payload) s := rfl
@[simp] theorem exec_batchAbort (tag : Byte) (payload : List Byte) : exec (.batchAbort tag payload) s =
    takeRequest tag (fixedLength 0 payload) ownBatchAbort s := rfl
@[simp] theorem exec_unknownKind (kind tag : Byte) (payload : List Byte) : exec (.unknownKind kind tag payload) s =
    onEvent (fun _ => (Instr.unknownKind kind tag payload).wellFormed)
    (fun s => if s.backlogged then s.discardFrame else s.pushReply tag (.refuse .unknownKind)) s := rfl
@[simp] theorem exec_backlogDiscard : exec .backlogDiscard s =
    onEvent State.backlogged State.discardFrame s := rfl
@[simp] theorem exec_crcError (body : List Byte) (crc : Half) : exec (.crcError body crc) s =
    onEvent (fun _ => (Instr.crcError body crc).wellFormed)
    (State.loseFrame fun l => { l with crcErrors := satInc l.crcErrors }) s := rfl
@[simp] theorem exec_formatError (cause : FormatCause) : exec (.formatError cause) s =
    onEvent (formatErrorOccurs cause)
    (State.loseFrame fun l => { l with formatErrors := satInc l.formatErrors }) s := rfl
@[simp] theorem exec_interByteTimeout : exec .interByteTimeout s =
    onEvent State.inFrame (State.loseFrame fun l => { l with timeouts := satInc l.timeouts }) s := rfl
@[simp] theorem exec_resetPinAssert : exec .resetPinAssert s =
    onEvent (fun _ => true) State.assertReset s := rfl
@[simp] theorem exec_bootTransmit : exec .bootTransmit s =
    onEvent State.bootReady State.beginBoot s := rfl
@[simp] theorem exec_bootSent : exec .bootSent s =
    onEvent (State.sending .boot) State.endBoot s := rfl
@[simp] theorem exec_replyTransmit : exec .replyTransmit s =
    onEvent State.replyReady State.beginReply s := rfl
@[simp] theorem exec_replySent : exec .replySent s =
    onEvent (State.sending .reply) State.endReply s := rfl
@[simp] theorem exec_noticeTransmit : exec .noticeTransmit s =
    onEvent State.noticeReady State.beginNotice s := rfl
@[simp] theorem exec_noticeSent : exec .noticeSent s =
    onEvent (State.sending .notice) State.endNotice s := rfl
@[simp] theorem exec_batchRoomOffer : exec .batchRoomOffer s =
    onOwed State.roomOffered State.takeRoom s := rfl
@[simp] theorem exec_frameStart : exec .frameStart s =
    onEvent State.timerExpires State.startFrame s := rfl
@[simp] theorem exec_enterRunning : exec .enterRunning s =
    onOwed State.owesEntry State.enterRunning s := rfl
@[simp] theorem exec_adoptionAtRoundStart : exec .adoptionAtRoundStart s =
    onOwed (fun s => s.settleEntry.owesAdoption) (fun s => s.settleEntry.adoptAtFrameStart) s := rfl
@[simp] theorem exec_deferTimeout : exec .deferTimeout s =
    onOwed State.owesTimeouts State.timeOutRecords s := rfl
@[simp] theorem exec_batchItemTimeout : exec .batchItemTimeout s =
    onOwed State.owesItemTimeout State.timeOutItem s := rfl
@[simp] theorem exec_slotOpen : exec .slotOpen s =
    onEvent (fun s => s.nextSlot.isSome) State.openNext s := rfl
@[simp] theorem exec_slotClose (line : SlotLine) : exec (.slotClose line) s =
    onEvent (fun s => s.openNow.isSome) (State.closeNow line) s := rfl
@[simp] theorem exec_collision : exec .collision s =
    onEvent (fun s => s.collisionPlace.isSome) State.collideNow s := rfl
@[simp] theorem exec_stopComplete : exec .stopComplete s =
    onOwed State.owesStop (State.framesStop .stop) s := rfl

end

/-! ### Owners of requests that keep counters, frame number and schedule -/

/-- What a field check and its owner both keep. -/
theorem checkFields_keeps {fault : Option Nat} {go : State → State × Answer} (h : Keeps s (go s).1) :
    Keeps s (checkFields fault go s).1 := by
  cases fault with
  | none => exact h
  | some n => exact .refl s

theorem onLiveOut_keeps {id : CircuitId} {go : LiveCircuit → State → State × Answer}
    (h : ∀ c, s.circuit id = some c → Keeps s (go c s).1) : Keeps s (onLiveOut id go s).1 := by
  unfold onLiveOut
  split
  · exact .refl s
  · next c hc =>
    split
    · exact h c hc
    · exact .refl s

theorem ownPut_keeps (p : List Byte) : Keeps s (ownPut p s).1 := by
  refine checkFields_keeps (onLiveOut_keeps fun c hc => ?_)
  unfold putUnitOn
  split
  · exact .refl s
  · split
    · exact .refl s
    · split
      · exact (s.rehold_inner (c := { c with run := { c.run with queue := c.run.queue ++ [putUnit p] } }) hc rfl).keeps
      · exact .refl s

theorem ownPurge_keeps (p : List Byte) : Keeps s (ownPurge p s).1 :=
  checkFields_keeps (onLiveOut_keeps fun c hc => (s.rehold_inner (c := { c with run := { c.run with queue := [] } })
    hc rfl).keeps)

theorem ownReadCircuit_keeps (p : List Byte) : Keeps s (ownReadCircuit p s).1 := by
  refine checkFields_keeps ?_
  unfold readCircuitOn
  split
  · exact .refl s
  · exact (s.clearCircuit_inner _ _).keeps

theorem ownAdmit_keeps (p : List Byte) : Keeps s (ownAdmit p s).1 := by
  refine checkFields_keeps ?_
  simp only [admitOn]
  split
  · exact (s.setEntry_followStation_inner _ _).keeps
  · exact (s.setEntry_inner _ _).keeps
  · exact (s.setEntry_inner _ _).keeps
  all_goals exact .refl s

theorem ownExclude_keeps (p : List Byte) : Keeps s (ownExclude p s).1 :=
  checkFields_keeps (s.excludeNow_inner _).keeps

theorem ownRelease_keeps (p : List Byte) : Keeps s (ownRelease p s).1 := by
  refine checkFields_keeps ?_
  simp only [releaseOn]
  split
  · exact (s.setEntry_inner _ _).keeps
  · exact .refl s

theorem ownQueryStation_keeps (p : List Byte) : Keeps s (ownQueryStation p s).1 := checkFields_keeps (.refl s)

theorem transactByResources_keeps (tag : Byte) (r : TxnRequest) : Keeps s (transactByResources tag r s).1 := by
  unfold transactByResources
  split
  · exact .refl s
  · split
    · exact .refl s
    · split
      · refine (Inner.trans ((s.onDelivery_inner Delivery.reserveHost).trans (State.holdTag_inner _ tag)) ?_).keeps
        exact .of_eq rfl rfl rfl rfl rfl rfl rfl
      · exact .refl s

theorem ownTransact_keeps (tag : Byte) (p : List Byte) : Keeps s (ownTransact tag p s).1 := by
  refine checkFields_keeps ?_
  unfold transactByState
  cases s.port.trunk
  case off | halted => exact .refl s
  all_goals exact transactByResources_keeps _ _

theorem ownCancel_keeps (p : List Byte) : Keeps s (ownCancel p s).1 := by
  unfold ownCancel cancelTag
  split
  · exact .refl s
  · split
    · exact (s.completeHost_inner _ _ _ _).keeps
    · exact (s.completeHost_inner _ _ _ _).keeps
    · exact .refl s

theorem State.withBatch_inner (b : BatchUnit) : Inner s (s.withBatch b) := .of_eq rfl rfl rfl rfl rfl rfl rfl

theorem State.acceptRun_inner (l : BatchList) (tag : Byte) (k : Nat) : Inner s (s.acceptRun l tag k) :=
  (State.withBatch_inner _).trans (State.startRun_inner _ l tag _)

theorem batchLoadIdle_keeps (tag : Byte) (l : BatchList) (count : Option Nat) : Keeps s (batchLoadIdle tag l count s).1 := by
  cases count with
  | none => exact (s.setBatch_inner _).keeps
  | some k =>
    simp only [batchLoadIdle, loadAndRun]
    split
    · exact .refl s
    · split
      · exact .refl s
      · exact ((s.setBatch_inner _).trans (State.acceptRun_inner l tag k)).keeps

theorem ownBatchLoad_keeps (tag : Byte) (p : List Byte) : Keeps s (ownBatchLoad tag p s).1 := by
  refine checkFields_keeps ?_
  unfold batchLoadByState
  split
  · exact .refl s
  · exact batchLoadIdle_keeps _ _ _
  · exact batchLoadIdle_keeps _ _ _

theorem ownBatchPreset_keeps (p : List Byte) : Keeps s (ownBatchPreset p s).1 :=
  checkFields_keeps (State.withBatch_inner _).keeps

theorem ownBatchRun_keeps (tag : Byte) (p : List Byte) : Keeps s (ownBatchRun tag p s).1 := by
  refine checkFields_keeps ?_
  unfold batchRunByState
  split
  · exact .refl s
  · exact .refl s
  · split
    · exact .refl s
    · split
      · exact .refl s
      · exact (State.acceptRun_inner _ _ _).keeps

theorem abortRun_keeps (l : BatchList) (r : BatchRun) : Keeps s (abortRun l r s).1 := by
  unfold abortRun
  split
  · exact .refl s
  · split
    · unfold abortWaiting
      split
      · exact .refl s
      · exact (s.setBatch_inner _).keeps
    · split
      · unfold abortItem
        split
        · exact (s.setBatch_inner _).keeps
        · exact (s.endItem_inner l { r with abort := true } _ ⟨.aborted, []⟩).keeps
        · exact (s.endItem_inner l { r with abort := true } _ ⟨.notRun, []⟩).keeps
      · exact .refl s

theorem ownBatchAbort_keeps : Keeps s (ownBatchAbort s).1 := by
  unfold ownBatchAbort
  split
  · exact .refl s
  · exact .refl s
  · exact abortRun_keeps _ _

theorem ownRestart_keeps : Keeps s (ownRestart s).1 := State.withLink_keeps le_rfl le_rfl le_rfl le_rfl

theorem ownCredit_keeps (p : List Byte) : Keeps s (ownCredit p s).1 := checkFields_keeps (s.onDelivery_inner _).keeps

/-! ### Every row -/

/-- The rows whose own act touches the configuration, the draft, the schedule, the frame number or a counter downwards, or
puts the blocks at their reset values. Every other row keeps what the shared operations keep. -/
def hasOwnAct : Instr → Bool
  | .status _ _ | .configure _ _ | .start _ _ | .stop _ _ | .defineCircuit _ _ | .dropCircuit _ _ | .setOpen _ _
  | .adopt _ _ | .revert _ _ | .powerOnReset _ _ _ | .resetPinRelease _ _ | .replySent | .frameStart => true
  | _ => false

namespace KeptByShared

variable {P : State → Prop} (hP : KeptByShared P)
include hP

/-- A collision, with the line fault where it is one (R19, R20). -/
theorem collideNow (hs : P s) : P s.collideNow := by
  have collide := hP.keeps _ _ (State.withPort_keeps s.port.collide_keptBy) hs
  unfold State.collideNow
  split
  · next p hp =>
    unfold State.collideAt
    split
    · refine hP.stop _ _ ?_ collide
      unfold State.collisionPlace at hp
      split at hp
      · next h => exact h.1
      · cases hp
    · exact collide
  · exact hs

/-- Every row without an act of its own on what the three relations speak of. -/
theorem exec {c : Instr} (hc : hasOwnAct c = false) (hs : P s) (h : exec c s = .next t) : P t := by
  cases c with
  | status | configure | start | stop | defineCircuit | dropCircuit | setOpen | adopt | revert | powerOnReset
  | resetPinRelease | replySent | frameStart => cases hc
  | hello tag p => exact hP.takeRequest_keeps ((exec_hello s tag p).symm.trans h) (fun u => .refl u) hs
  | restart tag p => exact hP.takeRequest_keeps ((exec_restart s tag p).symm.trans h) (fun u => ownRestart_keeps) hs
  | credit tag p => exact hP.takeRequest_keeps ((exec_credit s tag p).symm.trans h) (fun u => ownCredit_keeps p) hs
  | put tag p => exact hP.takeRequest_keeps ((exec_put s tag p).symm.trans h) (fun u => ownPut_keeps p) hs
  | purge tag p => exact hP.takeRequest_keeps ((exec_purge s tag p).symm.trans h) (fun u => ownPurge_keeps p) hs
  | readCircuit tag p =>
    exact hP.takeRequest_keeps ((exec_readCircuit s tag p).symm.trans h) (fun u => ownReadCircuit_keeps p) hs
  | admitStation tag p =>
    exact hP.takeRequest_keeps ((exec_admitStation s tag p).symm.trans h) (fun u => ownAdmit_keeps p) hs
  | excludeStation tag p =>
    exact hP.takeRequest_keeps ((exec_excludeStation s tag p).symm.trans h) (fun u => ownExclude_keeps p) hs
  | releaseStation tag p =>
    exact hP.takeRequest_keeps ((exec_releaseStation s tag p).symm.trans h) (fun u => ownRelease_keeps p) hs
  | queryStation tag p =>
    exact hP.takeRequest_keeps ((exec_queryStation s tag p).symm.trans h) (fun u => ownQueryStation_keeps p) hs
  | transact tag p =>
    exact hP.takeRequest_keeps ((exec_transact s tag p).symm.trans h) (fun u => ownTransact_keeps tag p) hs
  | cancel tag p => exact hP.takeRequest_keeps ((exec_cancel s tag p).symm.trans h) (fun u => ownCancel_keeps p) hs
  | batchLoad tag p =>
    exact hP.takeRequest_keeps ((exec_batchLoad s tag p).symm.trans h) (fun u => ownBatchLoad_keeps tag p) hs
  | batchPreset tag p =>
    exact hP.takeRequest_keeps ((exec_batchPreset s tag p).symm.trans h) (fun u => ownBatchPreset_keeps p) hs
  | batchRun tag p =>
    exact hP.takeRequest_keeps ((exec_batchRun s tag p).symm.trans h) (fun u => ownBatchRun_keeps tag p) hs
  | batchAbort tag p =>
    exact hP.takeRequest_keeps ((exec_batchAbort s tag p).symm.trans h) (fun u => ownBatchAbort_keeps) hs
  | unknownKind kind tag p =>
    refine hP.onEvent ((exec_unknownKind s kind tag p).symm.trans h) (fun u _ hu => ?_) hs
    split
    · exact hP.keeps _ _ State.discardFrame_keeps hu
    · exact hP.keeps _ _ (State.pushReply_keeps _ _) hu
  | backlogDiscard => exact hP.onEvent_keeps ((exec_backlogDiscard s).symm.trans h) (fun u => State.discardFrame_keeps) hs
  | crcError body crc =>
    exact hP.onEvent_keeps ((exec_crcError s body crc).symm.trans h) (fun u => State.withLink_keeps le_rfl (satInc_le _) le_rfl le_rfl) hs
  | formatError cause =>
    exact hP.onEvent_keeps ((exec_formatError s cause).symm.trans h) (fun u => State.withLink_keeps le_rfl le_rfl (satInc_le _) le_rfl) hs
  | interByteTimeout =>
    exact hP.onEvent_keeps ((exec_interByteTimeout s).symm.trans h) (fun u => State.withLink_keeps (satInc_le _) le_rfl le_rfl le_rfl) hs
  | resetPinAssert => exact hP.onEvent_keeps ((exec_resetPinAssert s).symm.trans h) (fun u => State.assertReset_keeps) hs
  | bootTransmit => exact hP.onEvent_keeps ((exec_bootTransmit s).symm.trans h) (fun u => State.beginBoot_keeps) hs
  | bootSent =>
    exact hP.onEvent_keeps ((exec_bootSent s).symm.trans h) (fun u => State.withLink_keeps le_rfl le_rfl le_rfl le_rfl) hs
  | replyTransmit => exact hP.onEvent_keeps ((exec_replyTransmit s).symm.trans h) (fun u => State.beginReply_keeps) hs
  | noticeTransmit => exact hP.onEvent_keeps ((exec_noticeTransmit s).symm.trans h) (fun u => State.beginNotice_keeps) hs
  | noticeSent => exact hP.onEvent_keeps ((exec_noticeSent s).symm.trans h) (fun u => State.endNotice_keeps) hs
  | batchRoomOffer =>
    exact KeptByShared.onOwed ((exec_batchRoomOffer s).symm.trans h) (fun u _ hu => hP.inner u.takeRoom_inner hu) hs
  | enterRunning => exact KeptByShared.onOwed ((exec_enterRunning s).symm.trans h) (fun u ho hu => hP.entry u ho hu) hs
  | adoptionAtRoundStart =>
    exact KeptByShared.onOwed ((exec_adoptionAtRoundStart s).symm.trans h) (fun u ho hu => hP.adoption _ ho (hP.settleEntry hu)) hs
  | deferTimeout =>
    exact KeptByShared.onOwed ((exec_deferTimeout s).symm.trans h) (fun u _ hu => hP.inner (State.completeAll_inner _ _ u) hu) hs
  | batchItemTimeout =>
    exact KeptByShared.onOwed ((exec_batchItemTimeout s).symm.trans h) (fun u _ hu => hP.timeOutItem hu) hs
  | slotOpen => exact hP.onEvent_keeps ((exec_slotOpen s).symm.trans h) (fun u => State.openNext_keeps) hs
  | slotClose line =>
    exact hP.onEvent_keeps ((exec_slotClose s line).symm.trans h) (fun u => State.closeNow_keeps line) hs
  | collision => exact hP.onEvent ((exec_collision s).symm.trans h) (fun u _ hu => hP.collideNow hu) hs
  | stopComplete =>
    refine KeptByShared.onOwed ((exec_stopComplete s).symm.trans h) (fun u ho hu => hP.stop u .stop ?_ hu) hs
    simp only [State.owesStop, Bool.and_eq_true] at ho
    exact ho.1.2

end KeptByShared

end Sys2Proof.Machine
end

section
/-! The laws that every row keeps: the frame number, the counters, the queue of commands, and the schedule's own law. -/

namespace Sys2Proof.Machine

variable {s t u : State}

/-! ### Carrying out an adoption leaves the other blocks alone (R44) -/

section
variable (s : State)

@[simp] theorem State.carryOutAdoption_port : s.carryOutAdoption.port = s.port := by
  rw [State.carryOutAdoption, State.withSched_port, State.onDelivery_port]
@[simp] theorem State.carryOutAdoption_roster : s.carryOutAdoption.roster = s.roster := by
  rw [State.carryOutAdoption, State.withSched_roster, State.onDelivery_roster]
@[simp] theorem State.carryOutAdoption_engine : s.carryOutAdoption.engine = s.engine := by
  rw [State.carryOutAdoption, State.withSched_engine, State.onDelivery_engine]
@[simp] theorem State.carryOutAdoption_batch : s.carryOutAdoption.batch = s.batch := by
  rw [State.carryOutAdoption, State.withSched_batch, State.onDelivery_batch]
@[simp] theorem State.carryOutAdoption_link : s.carryOutAdoption.link = s.link := by
  rw [State.carryOutAdoption, State.withSched_link, State.onDelivery_link]
@[simp] theorem State.carryOutAdoption_draws : s.carryOutAdoption.draws = s.draws := by
  rw [State.carryOutAdoption, State.withSched_draws, State.onDelivery_draws]
@[simp] theorem State.carryOutAdoption_pending : s.carryOutAdoption.pending = s.pending := by
  rw [State.carryOutAdoption, State.withSched_pending, State.onDelivery_pending]

@[simp] theorem State.adoptWithRecord_port : s.adoptWithRecord.port = s.port := by simp [State.adoptWithRecord]
@[simp] theorem State.adoptWithRecord_sched : s.adoptWithRecord.sched = s.carryOutAdoption.sched := by
  simp [State.adoptWithRecord]
@[simp] theorem State.adoptWithRecord_roster : s.adoptWithRecord.roster = s.roster := by simp [State.adoptWithRecord]
@[simp] theorem State.adoptWithRecord_engine : s.adoptWithRecord.engine = s.engine := by simp [State.adoptWithRecord]
@[simp] theorem State.adoptWithRecord_batch : s.adoptWithRecord.batch = s.batch := by simp [State.adoptWithRecord]
@[simp] theorem State.adoptWithRecord_link : s.adoptWithRecord.link = s.link := by simp [State.adoptWithRecord]
@[simp] theorem State.adoptWithRecord_draws : s.adoptWithRecord.draws = s.draws := by simp [State.adoptWithRecord]
@[simp] theorem State.adoptWithRecord_pending : s.adoptWithRecord.pending = s.pending := by simp [State.adoptWithRecord]

end

/-! ### Frame number and counters -/

theorem State.adoptWithRecord_advances : Advances s s.adoptWithRecord :=
  .of_blocks s.adoptWithRecord_port (by rw [State.adoptWithRecord_engine]) s.adoptWithRecord_link s.adoptWithRecord_pending

theorem State.stopStep_advances (c : StopCause) (step : StopStep) : Advances s (s.stopStep c step) := by
  cases step with
  | trunkRecord => exact (s.offerEvent_inner _).keeps.toAdvances
  | adoption =>
    simp only [State.stopStep, State.adoptAtStop]
    split
    · exact State.adoptWithRecord_advances
    · exact .refl s
  | batchEnd => exact (s.stopBatch_inner _ _).keeps.toAdvances
  | complete r => exact (s.completeHost_inner r _ 0 []).keeps.toAdvances

theorem State.stopSteps_advances (c : StopCause) (steps : List StopStep) (s : State) :
    Advances s (s.stopSteps c steps) := by
  induction steps generalizing s with
  | nil => exact .refl s
  | cons step rest ih => exact (State.stopStep_advances c step).trans (ih _)

theorem State.abandonAt_inner (c : StopCause) : Inner s (s.abandonAt c) := by
  cases c with
  | stop => exact .refl s
  | halt p => exact s.abandonUnits_inner

/-- What frames stopping does before the responses that append records: the port stops, units are given up at a HALT,
every station entry is reset (R9, R70, R91). -/
def State.stopBase (c : StopCause) (s : State) : State :=
  (((s.withPort (s.port.stopped c)).abandonAt c).mapEntries StationEntry.atFramesStopping).withDraws
    (((s.withPort (s.port.stopped c)).abandonAt c).draws + 3)

theorem State.framesStop_eq (c : StopCause) : ∃ draw,
    s.framesStop c = (s.stopBase c).stopSteps c (stopOrder draw (s.stopBase c).engine.queue) := ⟨_, rfl⟩

theorem State.stopBase_advances (c : StopCause) : Advances s (s.stopBase c) :=
  have stopped : Advances s (s.withPort (s.port.stopped c)) := State.withPort_advances rfl le_rfl le_rfl le_rfl
  ((stopped.trans (State.abandonAt_inner c).keeps.toAdvances).trans (State.mapEntries_inner _ StationEntry.atFramesStopping).keeps.toAdvances).trans
    (.of_blocks rfl rfl rfl rfl)

theorem State.framesStop_advances (c : StopCause) : Advances s (s.framesStop c) := by
  obtain ⟨draw, h⟩ := s.framesStop_eq c
  rw [h]
  exact (State.stopBase_advances c).trans (State.stopSteps_advances _ _ _)

theorem State.enterRunning_advances : Advances s s.enterRunning :=
  have entered : Advances s (s.withPort { s.port with trunk := .running }) :=
    State.withPort_advances rfl le_rfl le_rfl le_rfl
  (entered.trans (State.runningFrameStart_inner _).keeps.toAdvances).trans (State.offerEvent_inner _ _).keeps.toAdvances

/-- Frame number and counters, from a fixed earlier state. -/
theorem advances_keptByShared (s₀ : State) : KeptByShared (Advances s₀) where
  keeps _ _ h hu := hu.trans h.toAdvances
  entry _ _ hu := hu.trans State.enterRunning_advances
  adoption _ _ hu := (hu.trans State.adoptWithRecord_advances).trans (State.withPort_pos_keeps _).toAdvances
  stop _ c _ hu := hu.trans (State.framesStop_advances c)

/-! ### Requests with an act of their own -/

/-- The form of an editing request keeps what its owner keeps. -/
theorem editDraft_rec {P : State → Prop} {go : State → State × Answer} (hs : P s)
    (hg : s.sched.adoptPending = false → P (go s).1) : P (editDraft go s).1 := by
  unfold editDraft
  split
  · exact hs
  · next h => exact hg (by simpa using h)

theorem checkFields_rec {P : State → Prop} {fault : Option Nat} {go : State → State × Answer} (hs : P s)
    (hg : fault = none → P (go s).1) : P (checkFields fault go s).1 := by
  cases fault with
  | none => exact hg rfl
  | some n => exact hs

theorem State.setDraft_advances (d : Draft) : Advances s (s.setDraft d) :=
  ⟨⟨rfl, le_rfl, le_rfl, le_rfl, le_rfl, le_rfl, le_rfl, le_rfl, le_rfl⟩, rfl⟩

theorem ownDefineCircuit_advances (p : List Byte) : Advances s (ownDefineCircuit p s).1 :=
  checkFields_rec (.refl s) fun _ => editDraft_rec (.refl s) fun _ => State.setDraft_advances _

theorem ownDropCircuit_advances (p : List Byte) : Advances s (ownDropCircuit p s).1 := by
  refine checkFields_rec (.refl s) fun _ => editDraft_rec (.refl s) fun _ => ?_
  split
  · exact .refl s
  · exact State.setDraft_advances _

theorem ownSetOpen_advances (p : List Byte) : Advances s (ownSetOpen p s).1 :=
  checkFields_rec (.refl s) fun _ => editDraft_rec (.refl s) fun _ => State.setDraft_advances _

theorem ownRevert_advances : Advances s (ownRevert s).1 := editDraft_rec (.refl s) fun _ => State.setDraft_advances _

theorem adoptValidated_advances (pending : Bool) : Advances s (adoptValidated pending s).1 := by
  have kept : ∀ c d, Advances s ((s.onDelivery d).withSched c) := fun _ _ =>
    ⟨⟨rfl, le_rfl, le_rfl, le_rfl, le_rfl, le_rfl, le_rfl, le_rfl, le_rfl⟩, rfl⟩
  unfold adoptValidated
  split
  · exact .refl s
  · split
    · exact kept _ id
    · exact kept _ _

theorem ownAdopt_advances : Advances s (ownAdopt s).1 := by
  unfold ownAdopt
  cases s.port.trunk
  case off => exact .refl s
  all_goals exact editDraft_rec (.refl s) fun _ => adoptValidated_advances _

theorem ownConfigure_advances (p : List Byte) : Advances s (ownConfigure p s).1 := by
  have installed : ∀ r, Advances s (s.install r) := fun r =>
    ⟨⟨rfl, le_rfl, le_rfl, le_rfl, le_rfl, le_rfl, le_rfl, le_rfl, le_rfl⟩, rfl⟩
  refine checkFields_rec (.refl s) fun _ => ?_
  unfold configureByState
  split
  · exact .refl s
  · exact .refl s
  · exact .refl s
  · exact installed _
  · split
    · exact .refl s
    · exact installed _

theorem ownStop_advances : Advances s (ownStop s).1 := by
  have stopped : Advances s s.stopRunning := by
    unfold State.stopRunning
    split
    · exact State.framesStop_advances _
    · exact ⟨⟨rfl, le_rfl, le_rfl, le_rfl, le_rfl, le_rfl, le_rfl, le_rfl, le_rfl⟩, rfl⟩
  unfold ownStop
  split
  · exact .refl s
  · exact .refl s
  · exact ⟨⟨rfl, le_rfl, le_rfl, le_rfl, le_rfl, le_rfl, le_rfl, le_rfl, le_rfl⟩, rfl⟩
  · exact stopped
  · exact stopped

/-- STATUS clears the counters only with its flag set; whatever it does, the frame number and the queue of commands
stay. -/
theorem ownStatus_cases (p : List Byte) : Advances s (ownStatus p s).1 ∨
    (numAt p 0 = 1 ∧ (ownStatus p s).1 = s.clearCounters) := by
  by_cases h : numAt p 0 = 1
  · exact .inr ⟨h, by simp [ownStatus, checkFields, firstFault, h]⟩
  · refine .inl (checkFields_rec (.refl s) fun _ => ?_)
    rw [if_neg h]
    exact .refl s

theorem ownStart_cases (s : State) : (ownStart s).1 = s ∨ (ownStart s).1 = s.startTrunk := by
  unfold ownStart
  split
  · split
    · exact .inr rfl
    · exact .inl rfl
  all_goals exact .inl rfl

theorem fixedLength_length {n : Nat} {p : List Byte} (h : fixedLength n p = true) : p.length = n := by
  simp only [fixedLength, Bool.and_eq_true, beq_iff_eq] at h
  exact h.1

theorem State.startFrame_port (s : State) : s.startFrame.port = s.port.startFrame s.sched.adoptPending := by
  simp only [State.startFrame]
  split
  · rw [(State.runningFrameStart_inner _).port, State.withPort_port]
  · rfl

theorem State.startFrame_counts (s : State) : Counts s s.startFrame := by
  have opened : Counts s (s.withPort (s.port.startFrame s.sched.adoptPending)) :=
    ⟨rfl, le_rfl, le_rfl, le_rfl, le_rfl, le_rfl, le_rfl, le_rfl, le_rfl⟩
  simp only [State.startFrame]
  split
  · exact opened.trans (State.runningFrameStart_inner _).keeps.toCounts
  · exact opened

/-- The frame that the timer opens is the one whose number stands, or the one after it (R11). -/
theorem Port.nextFrameNo_cases (p : Port) : p.nextFrameNo = p.frameNo ∨ p.nextFrameNo = p.frameNo + 1 := by
  unfold Port.nextFrameNo
  cases p.timer with
  | disarmed => exact .inl rfl
  | firstFrame => exact .inl rfl
  | nextFrame => exact .inr rfl

/-- What every row but a reset does to the frame number and the counters: START sets the frame number to 0, a frame
start adds 1 at most, a STATUS with its flag set clears counters; no other row touches either. -/
theorem exec_advances_or {c : Instr} (h : exec c s = .next t) (hc : ¬ MayReset c) :
    Advances s t ∨ (c = .frameStart ∧ t.port.frameNo = s.port.frameNo + 1 ∧ Counts s t) ∨
      (∃ tag, c = .start tag [] ∧ t.port.frameNo = 0 ∧ Counts s t) ∨
      (∃ tag, c = .status tag [1] ∧ t.port.frameNo = s.port.frameNo ∧ t.pending = s.pending) := by
  have hP := advances_keptByShared s
  have refl := Advances.refl s
  have settled : Advances s s.settle := hP.settle refl
  cases hown : hasOwnAct c with
  | false => exact .inl (hP.exec hown refl h)
  | true =>
    cases c with
    | configure tag p =>
      exact .inl (hP.takeRequest ((exec_configure s tag p).symm.trans h) (fun u _ hu => hu.trans (ownConfigure_advances p)) refl)
    | stop tag p =>
      exact .inl (hP.takeRequest ((exec_stop s tag p).symm.trans h) (fun u _ hu => hu.trans ownStop_advances) refl)
    | defineCircuit tag p =>
      exact .inl (hP.takeRequest ((exec_defineCircuit s tag p).symm.trans h) (fun u _ hu => hu.trans (ownDefineCircuit_advances p)) refl)
    | dropCircuit tag p =>
      exact .inl (hP.takeRequest ((exec_dropCircuit s tag p).symm.trans h) (fun u _ hu => hu.trans (ownDropCircuit_advances p)) refl)
    | setOpen tag p =>
      exact .inl (hP.takeRequest ((exec_setOpen s tag p).symm.trans h) (fun u _ hu => hu.trans (ownSetOpen_advances p)) refl)
    | adopt tag p =>
      exact .inl (hP.takeRequest ((exec_adopt s tag p).symm.trans h) (fun u _ hu => hu.trans ownAdopt_advances) refl)
    | revert tag p =>
      exact .inl (hP.takeRequest ((exec_revert s tag p).symm.trans h) (fun u _ hu => hu.trans ownRevert_advances) refl)
    | status tag p =>
      obtain ⟨-, rfl⟩ | ⟨-, -, rfl⟩ | ⟨-, -, hb, rfl⟩ | ⟨-, -, -, rfl⟩ := takeRequest_cases _ t ((exec_status s tag p).symm.trans h)
      · exact .inl refl
      · exact .inl (settled.trans State.discardFrame_keeps.toAdvances)
      · obtain kept | ⟨h1, cleared⟩ := ownStatus_cases (s := s.settle) p
        · exact .inl ((settled.trans kept).trans (State.pushReply_keeps _ _).toAdvances)
        · obtain ⟨b, rfl⟩ := List.length_eq_one_iff.mp (fixedLength_length hb)
          have hb1 : b = 1 := BitVec.eq_of_toNat_eq h1
          refine .inr (.inr (.inr ⟨tag, by rw [hb1], ?_, ?_⟩))
          · rw [State.pushReply_port, cleared]; exact settled.frameNo
          · rw [State.pushReply_pending, cleared]; exact settled.pending
      · exact .inl (settled.trans (State.pushReply_keeps _ _).toAdvances)
    | start tag p =>
      obtain ⟨-, rfl⟩ | ⟨-, -, rfl⟩ | ⟨-, -, hb, rfl⟩ | ⟨-, -, -, rfl⟩ := takeRequest_cases _ t ((exec_start s tag p).symm.trans h)
      · exact .inl refl
      · exact .inl (settled.trans State.discardFrame_keeps.toAdvances)
      · obtain same | started := ownStart_cases s.settle
        · rw [same]
          exact .inl (settled.trans (State.pushReply_keeps _ _).toAdvances)
        · rw [started]
          have hp : p = [] := List.length_eq_zero_iff.mp (fixedLength_length hb)
          refine .inr (.inr (.inl ⟨tag, by rw [hp], rfl, settled.toCounts.trans ?_⟩))
          exact ⟨rfl, le_rfl, le_rfl, le_rfl, le_rfl, le_rfl, le_rfl, le_rfl, le_rfl⟩
      · exact .inl (settled.trans (State.pushReply_keeps _ _).toAdvances)
    | frameStart =>
      obtain ⟨-, rfl⟩ | ⟨-, -, rfl⟩ | ⟨-, -, rfl⟩ := onEvent_cases t ((exec_frameStart s).symm.trans h)
      · exact .inl refl
      · have started := State.startFrame_counts s.settle
        have number : s.settle.startFrame.port.frameNo = s.settle.port.nextFrameNo := by rw [State.startFrame_port]; rfl
        obtain same | next := s.settle.port.nextFrameNo_cases
        · exact .inl ⟨settled.toCounts.trans started, by rw [number, same, settled.frameNo]⟩
        · exact .inr (.inl ⟨rfl, by rw [number, next, settled.frameNo], settled.toCounts.trans started⟩)
      · exact .inl settled
    | powerOnReset a b d => exact absurd (.inl ⟨a, b, d, rfl⟩) hc
    | resetPinRelease a b => exact absurd (.inr (.inl ⟨a, b, rfl⟩)) hc
    | replySent => exact absurd (.inr (.inr rfl)) hc
    | _ => cases hown

/-! ### The statements about frame number, counters and queue -/

/-- A reset leaves the queue of commands alone. -/
theorem exec_pending_of_mayReset {c : Instr} (hc : MayReset c) : ∃ t, exec c s = .next t ∧ t.pending = s.pending := by
  obtain ⟨a, b, d, rfl⟩ | ⟨a, b, rfl⟩ | rfl := hc
  · exact ⟨_, rfl, rfl⟩
  · refine ⟨_, rfl, ?_⟩
    split <;> rfl
  · have settled : s.settle.pending = s.pending := ((advances_keptByShared s).settle (.refl s)).pending
    have ended : s.settle.endReply.pending = s.settle.pending := by
      simp only [State.endReply]
      split <;> rfl
    refine ⟨_, rfl, ?_⟩
    split
    · rfl
    · dsimp only
      split
      · rw [ended, settled]
      · exact settled

/-- No row stops (R20, R156). -/
theorem exec_next (c : Instr) (s : State) : ∃ t, exec c s = .next t := by cases c <;> exact ⟨_, rfl⟩

/-- Settles O2, from what every row does to the queue of commands. -/
theorem everyRowAnswersNext : Obligations.EveryRowAnswersNext := by
  intro c s
  by_cases hc : MayReset c
  · exact exec_pending_of_mayReset hc
  · obtain ⟨t, h⟩ := exec_next c s
    refine ⟨t, h, ?_⟩
    obtain kept | ⟨-, -, kept⟩ | ⟨-, -, -, kept⟩ | ⟨-, -, -, kept⟩ := exec_advances_or h hc
    · exact kept.pending
    · exact kept.pending
    · exact kept.pending
    · exact kept

/-- Settles O17. -/
theorem frameNumberMoves : Obligations.FrameNumberMoves := by
  intro c s t h hc moved
  obtain kept | ⟨hf, next, -⟩ | ⟨tag, hs, zero, -⟩ | ⟨-, -, same, -⟩ := exec_advances_or h hc
  · exact absurd kept.frameNo moved
  · exact .inl ⟨hf, next⟩
  · exact .inr ⟨tag, hs, zero⟩
  · exact absurd same moved

/-- Settles O18. -/
theorem countersNeverFall : Obligations.CountersNeverFall := by
  intro c s t h hc notCleared
  have counts : Counts s t := by
    obtain kept | ⟨-, -, kept⟩ | ⟨-, -, -, kept⟩ | ⟨tag, hs, -⟩ := exec_advances_or h hc
    · exact kept.toCounts
    · exact kept
    · exact kept
    · exact absurd hs (notCleared tag)
  exact ⟨counts.badCells, counts.silentSlots, counts.collisions, counts.strays, counts.timeouts, counts.crcErrors,
    counts.formatErrors, counts.backlog⟩

/-! ### RESET low -/

/-- The pin is not released exactly while the part is held (R22, R164). -/
theorem State.held_iff : s.held = true ↔ s.link.pin ≠ .released := by simp [State.held]

theorem onOwed_held {owed : State → Bool} {act : State → State} (h : s.held = true) : onOwed owed act s = .next s := by
  simp [onOwed, h]

/-- Settles O19: each row's form asks first whether the pin is low. -/
theorem heldResetIgnoresRows : Obligations.HeldResetIgnoresRows := by
  intro c s hpin hpower hrelease
  have h : s.held = true := State.held_iff.mpr hpin
  cases c with
  | powerOnReset a b d => exact absurd rfl (hpower a b d)
  | resetPinRelease a b => exact absurd rfl (hrelease a b)
  | batchRoomOffer | enterRunning | adoptionAtRoundStart | deferTimeout | batchItemTimeout | stopComplete =>
    simp [onOwed_held h]
  | unknownKind | backlogDiscard | crcError | formatError | interByteTimeout | resetPinAssert | bootTransmit | bootSent
  | replyTransmit | replySent | noticeTransmit | noticeSent | frameStart | slotOpen | slotClose | collision =>
    simp [onEvent_held h]
  | _ => simp [takeRequest_held h]

end Sys2Proof.Machine
end

section
/-! The law of the schedule: a live schedule and a pending draft have passed validation against S (R3, R34, R38, R41,
R42). -/

namespace Sys2Proof.Machine

variable {s t u : State}

/-! ### What the law reads -/

theorem Sched.liveAsDraft_of_live {c : Sched} {l : LiveSchedule} (h : c.live = some l) : c.liveAsDraft = l.asDraft := by
  simp [Sched.liveAsDraft, h, LiveSchedule.asDraft]

/-- The law in the terms that the three relations speak of. -/
theorem State.scheduleLaw_iff : s.ScheduleLaw ↔
    (∀ d, s.sched.live.map LiveSchedule.asDraft = some d → s.port.trunk ≠ .off ∧ d.conflict s.cfg.slots = none) ∧
      (s.sched.adoptPending = true → s.port.trunk.framesRun = true ∧ s.sched.draft.conflict s.cfg.slots = none) := by
  constructor
  · rintro ⟨live, pending⟩
    refine ⟨fun d hd => ?_, pending⟩
    obtain ⟨l, hl, rfl⟩ := Option.map_eq_some_iff.mp hd
    rw [← Sched.liveAsDraft_of_live hl]
    exact live l hl
  · rintro ⟨live, pending⟩
    refine ⟨fun l hl => ?_, pending⟩
    rw [Sched.liveAsDraft_of_live hl]
    exact live _ (by rw [hl]; rfl)

theorem SameSchedule.cfg (h : SameSchedule s t) : t.cfg = s.cfg := by rw [State.cfg_eq, State.cfg_eq, h.config]

theorem SameSchedule.scheduleLaw (h : SameSchedule s t) (hs : s.ScheduleLaw) : t.ScheduleLaw := by
  rw [State.scheduleLaw_iff, h.live, h.trunk, h.cfg, h.adopting, h.draft]
  exact State.scheduleLaw_iff.mp hs

/-- Without a live schedule and without a pending adoption the law asks nothing. -/
theorem State.scheduleLaw_of_none (live : s.sched.live = none) (pending : s.sched.adoptPending = false) :
    s.ScheduleLaw :=
  ⟨fun l h => by simp [live] at h, fun h => by simp [pending] at h⟩

/-! ### Carrying out an adoption (R44 to R47) -/

theorem LiveCircuit.keep_defn (new : CircuitDef) (c : LiveCircuit) : (c.keep new).defn = new := by
  unfold LiveCircuit.keep
  split
  · rfl
  · split <;> rfl

/-- The live circuit of an id has the definition that the draft gives it. -/
theorem adoptId_defn (entries : Table StationEntry 30) (old : Option LiveCircuit) (new : Option CircuitDef) :
    (adoptId entries old new).map LiveCircuit.defn = new := by
  unfold adoptId
  split
  · rfl
  · rfl
  · rw [Option.map_some]
    split
    · rw [LiveCircuit.keep_defn]
    · rfl

@[simp] theorem State.carryOutAdoption_draft (s : State) : s.carryOutAdoption.sched.draft = s.sched.draft := by
  rw [State.carryOutAdoption, State.withSched_sched]
@[simp] theorem State.carryOutAdoption_adoptPending (s : State) : s.carryOutAdoption.sched.adoptPending = false := by
  rw [State.carryOutAdoption, State.withSched_sched]
@[simp] theorem State.carryOutAdoption_live (s : State) :
    s.carryOutAdoption.sched.live = some ⟨s.adoptedTable, s.sched.draft.pairs⟩ := by
  rw [State.carryOutAdoption, State.withSched_sched]

/-- The draft becomes the live schedule. -/
theorem State.carryOutAdoption_asDraft (s : State) :
    s.carryOutAdoption.sched.live.map LiveSchedule.asDraft = some s.sched.draft := by
  have circuits : s.adoptedTable.map (Option.map LiveCircuit.defn) = s.sched.draft.circuits := by
    apply Table.ext_get
    intro i
    rw [Table.get_map, State.adoptedTable, Table.get_ofFn, adoptId_defn]
  rw [State.carryOutAdoption_live, Option.map_some, LiveSchedule.asDraft, circuits]

/-- A validated draft adopted gives a schedule that obeys the law. -/
theorem State.carryOutAdoption_scheduleLaw (trunk : s.port.trunk ≠ .off)
    (valid : s.sched.draft.conflict s.cfg.slots = none) : s.carryOutAdoption.ScheduleLaw := by
  rw [State.scheduleLaw_iff, State.carryOutAdoption_asDraft, State.carryOutAdoption_port,
    State.carryOutAdoption_adoptPending, State.cfg_eq, State.carryOutAdoption_port]
  refine ⟨fun d hd => ?_, fun h => by cases h⟩
  obtain rfl := Option.some.inj hd
  exact ⟨trunk, valid⟩

theorem TrunkState.ne_off_of_framesRun {x : TrunkState} (h : x.framesRun = true) : x ≠ .off := by
  rintro rfl
  cases h

/-- A pending adoption obeys the law once it is carried out. -/
theorem State.adoptWithRecord_scheduleLaw (pending : s.sched.adoptPending = true) (hs : s.ScheduleLaw) :
    s.adoptWithRecord.ScheduleLaw := by
  obtain ⟨running, valid⟩ := hs.pending pending
  exact (State.offerEvent_inner _ _).keeps.scheduleLaw
    (State.carryOutAdoption_scheduleLaw (TrunkState.ne_off_of_framesRun running) valid)

/-! ### Frames stopping (R42) -/

/-- The law while frames stop: a pending draft is still valid, though no frames run any more. -/
structure State.StoppingLaw (s : State) : Prop where
  trunk : s.port.trunk ≠ .off
  live : ∀ d, s.sched.live.map LiveSchedule.asDraft = some d → d.conflict s.cfg.slots = none
  pending : s.sched.adoptPending = true → s.sched.draft.conflict s.cfg.slots = none

theorem SameSchedule.stoppingLaw (h : SameSchedule s t) (hs : s.StoppingLaw) : t.StoppingLaw :=
  ⟨by rw [h.trunk]; exact hs.trunk, by rw [h.live, h.cfg]; exact hs.live,
    by rw [h.adopting, h.draft, h.cfg]; exact hs.pending⟩

theorem State.StoppingLaw.scheduleLaw (h : s.StoppingLaw) (pending : s.sched.adoptPending = false) : s.ScheduleLaw := by
  rw [State.scheduleLaw_iff]
  exact ⟨fun d hd => ⟨h.trunk, h.live d hd⟩, fun hp => by rw [pending] at hp; cases hp⟩

/-- After its own response to frames stopping no adoption is pending. -/
@[simp] theorem State.adoptAtStop_adoptPending (s : State) : s.adoptAtStop.sched.adoptPending = false := by
  unfold State.adoptAtStop
  split
  · rw [State.adoptWithRecord_sched, State.carryOutAdoption_adoptPending]
  · next h => simpa using h

theorem State.adoptAtStop_stoppingLaw (hs : s.StoppingLaw) : s.adoptAtStop.StoppingLaw := by
  unfold State.adoptAtStop
  split
  · next pending =>
    refine (State.offerEvent_inner _ _).keeps.stoppingLaw ⟨?_, fun d hd => ?_, fun h => ?_⟩
    · rw [State.carryOutAdoption_port]; exact hs.trunk
    · rw [State.carryOutAdoption_asDraft] at hd
      rw [State.cfg_eq, State.carryOutAdoption_port, ← Option.some.inj hd]
      exact hs.pending pending
    · rw [State.carryOutAdoption_adoptPending] at h; cases h
  · exact hs

/-- Every response but the adoption leaves the schedule as the law reads it. -/
theorem State.stopStep_keeps (c : StopCause) {step : StopStep} (h : step ≠ .adoption) : Keeps s (s.stopStep c step) := by
  cases step with
  | trunkRecord => exact (s.offerEvent_inner _).keeps
  | adoption => exact absurd rfl h
  | batchEnd => exact (s.stopBatch_inner _ _).keeps
  | complete r => exact (s.completeHost_inner r _ 0 []).keeps

theorem State.stopStep_stoppingLaw (c : StopCause) (step : StopStep) (hs : s.StoppingLaw) :
    (s.stopStep c step).StoppingLaw := by
  by_cases h : step = .adoption
  · subst h; exact State.adoptAtStop_stoppingLaw hs
  · exact (State.stopStep_keeps c h).stoppingLaw hs

theorem State.stopSteps_stoppingLaw (c : StopCause) (steps : List StopStep) (s : State) (hs : s.StoppingLaw) :
    (s.stopSteps c steps).StoppingLaw := by
  induction steps generalizing s with
  | nil => exact hs
  | cons step rest ih => exact ih _ (State.stopStep_stoppingLaw c step hs)

/-- A response leaves no adoption pending where none was. -/
theorem State.stopStep_adoptPending (c : StopCause) (step : StopStep) (hs : s.sched.adoptPending = false) :
    (s.stopStep c step).sched.adoptPending = false := by
  by_cases h : step = .adoption
  · subst h; exact s.adoptAtStop_adoptPending
  · rw [(State.stopStep_keeps c h).adopting, hs]

/-- Once the adoption is among the responses, none is pending after them. -/
theorem State.stopSteps_adoptPending (c : StopCause) (steps : List StopStep) (s : State)
    (hs : s.sched.adoptPending = false ∨ .adoption ∈ steps) : (s.stopSteps c steps).sched.adoptPending = false := by
  induction steps generalizing s with
  | nil => exact hs.resolve_right List.not_mem_nil
  | cons step rest ih =>
    apply ih
    obtain none | mem := hs
    · exact .inl (State.stopStep_adoptPending c step none)
    · obtain rfl | mem := List.mem_cons.mp mem
      · exact .inl s.adoptAtStop_adoptPending
      · exact .inr mem

theorem insertAt_perm {α : Type} (k : Nat) (x : α) (l : List α) : (insertAt k x l).Perm (x :: l) := by
  have h : (insertAt k x l).Perm (x :: (l.take k ++ l.drop k)) := List.perm_middle
  rwa [List.take_append_drop] at h

/-- The responses to frames stopping, whatever the free choices: each host record once, and the three others once (R9). -/
theorem stopOrder_perm (draw : Nat) (queue : List HostRecord) :
    (stopOrder draw queue).Perm (.batchEnd :: .adoption :: .trunkRecord :: queue.map .complete) :=
  (insertAt_perm _ _ _).trans
    (.cons _ ((insertAt_perm _ _ _).trans (.cons _ (insertAt_perm _ _ _))))

theorem State.stopBase_stoppingLaw (c : StopCause) (hs : s.ScheduleLaw) : (s.stopBase c).StoppingLaw := by
  obtain ⟨live, pending⟩ := State.scheduleLaw_iff.mp hs
  have stopped : (s.withPort (s.port.stopped c)).StoppingLaw :=
    ⟨by cases c <;> simp [Port.stopped, StopCause.trunk], fun d hd => (live d hd).2, fun hp => (pending hp).2⟩
  have entries := (State.abandonAt_inner (s := s.withPort (s.port.stopped c)) c).trans
    (State.mapEntries_inner _ StationEntry.atFramesStopping)
  have reset := entries.keeps.stoppingLaw stopped
  exact ⟨reset.trunk, reset.live, reset.pending⟩

theorem State.framesStop_scheduleLaw (c : StopCause) (hs : s.ScheduleLaw) : (s.framesStop c).ScheduleLaw := by
  obtain ⟨draw, h⟩ := s.framesStop_eq c
  rw [h]
  refine (State.stopSteps_stoppingLaw c _ _ (State.stopBase_stoppingLaw c hs)).scheduleLaw ?_
  exact State.stopSteps_adoptPending c _ _ (.inr ((stopOrder_perm _ _).mem_iff.mpr (by simp)))

/-! ### The shared operations -/

/-- A state that differs in a trunk state in which frames run, at most. -/
theorem State.enterRunning_scheduleLaw (h : s.owesEntry = true) (hs : s.ScheduleLaw) : s.enterRunning.ScheduleLaw := by
  have trunk : s.port.trunk = .starting := by
    simp only [State.owesEntry, Bool.and_eq_true, beq_iff_eq] at h
    exact h.1.1
  have entered : (s.withPort { s.port with trunk := .running }).ScheduleLaw :=
    ⟨fun l hl => ⟨by simp, (hs.live l hl).2⟩, fun hp => ⟨rfl, (hs.pending hp).2⟩⟩
  exact ((State.runningFrameStart_inner _).trans (State.offerEvent_inner _ _)).keeps.scheduleLaw entered

theorem State.adoptAtFrameStart_scheduleLaw (h : s.owesAdoption = true) (hs : s.ScheduleLaw) :
    s.adoptAtFrameStart.ScheduleLaw := by
  simp only [State.owesAdoption, Bool.and_eq_true] at h
  exact (State.withPort_pos_keeps _).scheduleLaw (State.adoptWithRecord_scheduleLaw h.2 hs)

theorem scheduleLaw_keptByShared : KeptByShared State.ScheduleLaw where
  keeps _ _ h hu := h.scheduleLaw hu
  entry _ h hu := State.enterRunning_scheduleLaw h hu
  adoption _ h hu := State.adoptAtFrameStart_scheduleLaw h hu
  stop _ c _ hu := State.framesStop_scheduleLaw c hu

/-! ### Requests with an act of their own -/

/-- A draft replaced while no adoption is pending. -/
theorem State.setDraft_scheduleLaw {d : Draft} (pending : s.sched.adoptPending = false) (hs : s.ScheduleLaw) :
    (s.setDraft d).ScheduleLaw :=
  ⟨hs.live, fun h => by rw [show (s.setDraft d).sched.adoptPending = false from pending] at h; cases h⟩

theorem ownDefineCircuit_scheduleLaw (p : List Byte) (hs : s.ScheduleLaw) : (ownDefineCircuit p s).1.ScheduleLaw :=
  checkFields_rec hs fun _ => editDraft_rec hs fun h => State.setDraft_scheduleLaw h hs

theorem ownDropCircuit_scheduleLaw (p : List Byte) (hs : s.ScheduleLaw) : (ownDropCircuit p s).1.ScheduleLaw := by
  refine checkFields_rec hs fun _ => editDraft_rec hs fun h => ?_
  split
  · exact hs
  · exact State.setDraft_scheduleLaw h hs

theorem ownSetOpen_scheduleLaw (p : List Byte) (hs : s.ScheduleLaw) : (ownSetOpen p s).1.ScheduleLaw :=
  checkFields_rec hs fun _ => editDraft_rec hs fun h => State.setDraft_scheduleLaw h hs

theorem ownRevert_scheduleLaw (hs : s.ScheduleLaw) : (ownRevert s).1.ScheduleLaw :=
  editDraft_rec hs fun h => State.setDraft_scheduleLaw h hs

/-- A draft that has passed validation is adopted at once, or becomes pending while frames run (R34, R41). -/
theorem adoptValidated_scheduleLaw {pending : Bool} (trunk : s.port.trunk ≠ .off)
    (running : pending = true → s.port.trunk.framesRun = true) (hs : s.ScheduleLaw) :
    (adoptValidated pending s).1.ScheduleLaw := by
  unfold adoptValidated
  split
  · exact hs
  · next valid =>
    split
    · next hp => exact ⟨hs.live, fun _ => ⟨running hp, valid⟩⟩
    · exact State.carryOutAdoption_scheduleLaw trunk valid

theorem ownAdopt_scheduleLaw (hs : s.ScheduleLaw) : (ownAdopt s).1.ScheduleLaw := by
  unfold ownAdopt
  cases ht : s.port.trunk with
  | off => exact hs
  | ready | halted =>
    exact editDraft_rec hs fun _ => adoptValidated_scheduleLaw (by simp [ht]) (by simp) hs
  | starting | running =>
    exact editDraft_rec hs fun _ => adoptValidated_scheduleLaw (by simp [ht]) (by simp [ht, TrunkState.framesRun]) hs

/-! ### CONFIGURE (R3) -/

theorem Table.filterMap_map {α β : Type} {n : Nat} (t : Table (Option α) n) (f : α → β) :
    (t.map (Option.map f)).toList.filterMap id = (t.toList.filterMap id).map f := by
  simp only [Table.map, List.filterMap_map, List.map_filterMap]
  congr 1

/-- The slots that a live schedule uses are those of its definitions and pairs. -/
theorem LiveSchedule.uses_eq (l : LiveSchedule) (k : Nat) :
    l.uses k = (usedByPair l.asDraft.pairs k || usedByCircuit l.asDraft.defs k) := by
  simp only [LiveSchedule.uses, LiveSchedule.asDraft, Draft.defs, Table.filterMap_map]

/-- A draft without conflict against one S, none of whose slots lies at or above another, has none against that one (R3,
R35). -/
theorem Draft.conflict_of_below {d : Draft} {old new : Nat} (valid : d.conflict old = none)
    (below : (lowestSlot fun k => decide (new ≤ k) && (usedByPair d.pairs k || usedByCircuit d.defs k)) = none) :
    d.conflict new = none := by
  unfold Draft.conflict at valid ⊢
  split
  · next h => rw [if_pos h] at valid; cases valid
  · next h =>
    rw [if_neg h] at valid
    rw [below]
    simp only [Option.or_eq_none_iff] at valid ⊢
    exact ⟨trivial, valid.2⟩

theorem State.install_scheduleLaw {r : ConfigRecord} (pending : s.sched.adoptPending = false)
    (live : ∀ l, s.sched.live = some l → l.asDraft.conflict r.slots = none) : (s.install r).ScheduleLaw := by
  refine ⟨fun l hl => ⟨by simp [State.install], ?_⟩, fun h => ?_⟩
  · rw [Sched.liveAsDraft_of_live hl]
    exact live l hl
  · rw [show (s.install r).sched.adoptPending = false from pending] at h; cases h

/-- Where no frames run no adoption is pending. -/
theorem State.ScheduleLaw.adoptPending_of_not_framesRun (hs : s.ScheduleLaw) (h : s.port.trunk.framesRun = false) :
    s.sched.adoptPending = false := by
  by_contra hp
  have := (hs.pending (by simpa using hp)).1
  rw [h] at this
  cases this

theorem configureByState_scheduleLaw (r : ConfigRecord) (hs : s.ScheduleLaw) : (configureByState r s).1.ScheduleLaw := by
  unfold configureByState
  split
  · exact hs
  · exact hs
  · exact hs
  · next ht =>
    exact State.install_scheduleLaw (hs.adoptPending_of_not_framesRun (by rw [ht]; rfl))
      fun l hl => absurd ht (hs.live l hl).1
  · next ht =>
    split
    · exact hs
    · next hbeyond =>
      refine State.install_scheduleLaw (hs.adoptPending_of_not_framesRun (by rw [ht]; rfl)) fun l hl => ?_
      have valid := (hs.live l hl).2
      rw [Sched.liveAsDraft_of_live hl] at valid
      refine Draft.conflict_of_below valid ?_
      simp only [State.liveBeyond, hl, LiveSchedule.beyond, LiveSchedule.uses_eq] at hbeyond
      exact hbeyond

/-! ### START and STOP -/

theorem ownStart_scheduleLaw (hs : s.ScheduleLaw) : (ownStart s).1.ScheduleLaw := by
  obtain same | started := ownStart_cases s
  · rw [same]; exact hs
  · rw [started]
    exact ⟨fun l hl => ⟨by simp [State.startTrunk], (hs.live l hl).2⟩, fun hp => ⟨rfl, (hs.pending hp).2⟩⟩

theorem ownStop_scheduleLaw (hs : s.ScheduleLaw) : (ownStop s).1.ScheduleLaw := by
  have stopped : s.stopRunning.ScheduleLaw := by
    unfold State.stopRunning
    split
    · exact State.framesStop_scheduleLaw .stop hs
    · exact SameSchedule.scheduleLaw (s := s) ⟨rfl, rfl, rfl, rfl, rfl⟩ hs
  unfold ownStop
  split
  · exact hs
  · exact hs
  · next ht =>
    have pending := hs.adoptPending_of_not_framesRun (by rw [ht]; rfl)
    refine ⟨fun l hl => ⟨by simp, (hs.live l hl).2⟩, fun hp => ?_⟩
    rw [show s.sched.adoptPending = true from hp] at pending
    cases pending
  · exact stopped
  · exact stopped

/-! ### Rows outside the shared operations -/

theorem ownStatus_scheduleLaw (p : List Byte) (hs : s.ScheduleLaw) : (ownStatus p s).1.ScheduleLaw := by
  refine checkFields_rec hs fun _ => ?_
  dsimp only
  split
  · exact SameSchedule.scheduleLaw (s := s) ⟨rfl, rfl, rfl, rfl, rfl⟩ hs
  · exact hs

theorem State.startFrame_scheduleLaw (hs : s.ScheduleLaw) : s.startFrame.ScheduleLaw := by
  have opened : SameSchedule s (s.withPort (s.port.startFrame s.sched.adoptPending)) := ⟨rfl, rfl, rfl, rfl, rfl⟩
  simp only [State.startFrame]
  split
  · exact (State.runningFrameStart_inner _).keeps.scheduleLaw (opened.scheduleLaw hs)
  · exact opened.scheduleLaw hs

/-- Every block at its reset values. -/
theorem State.resetBlocks_scheduleLaw (l : Link) : (s.resetBlocks l).ScheduleLaw := State.scheduleLaw_of_none rfl rfl

theorem State.endReply_scheduleLaw (hs : s.ScheduleLaw) : s.endReply.ScheduleLaw := by
  simp only [State.endReply]
  split
  · exact State.resetBlocks_scheduleLaw _
  · exact SameSchedule.scheduleLaw (s := s) ⟨rfl, rfl, rfl, rfl, rfl⟩ hs

/-- Settles O11: the shared operations keep the law, and so does each row with an act of its own. -/
theorem scheduleLawKept : Obligations.ScheduleLawKept := by
  intro c s t hs h
  have hP := scheduleLaw_keptByShared
  cases hown : hasOwnAct c with
  | false => exact hP.exec hown hs h
  | true =>
    cases c with
    | status tag p =>
      exact hP.takeRequest ((exec_status s tag p).symm.trans h) (fun u _ hu => ownStatus_scheduleLaw p hu) hs
    | configure tag p =>
      exact hP.takeRequest ((exec_configure s tag p).symm.trans h)
        (fun u _ hu => checkFields_rec hu fun _ => configureByState_scheduleLaw _ hu) hs
    | start tag p => exact hP.takeRequest ((exec_start s tag p).symm.trans h) (fun u _ hu => ownStart_scheduleLaw hu) hs
    | stop tag p => exact hP.takeRequest ((exec_stop s tag p).symm.trans h) (fun u _ hu => ownStop_scheduleLaw hu) hs
    | defineCircuit tag p =>
      exact hP.takeRequest ((exec_defineCircuit s tag p).symm.trans h) (fun u _ hu => ownDefineCircuit_scheduleLaw p hu) hs
    | dropCircuit tag p =>
      exact hP.takeRequest ((exec_dropCircuit s tag p).symm.trans h) (fun u _ hu => ownDropCircuit_scheduleLaw p hu) hs
    | setOpen tag p =>
      exact hP.takeRequest ((exec_setOpen s tag p).symm.trans h) (fun u _ hu => ownSetOpen_scheduleLaw p hu) hs
    | adopt tag p => exact hP.takeRequest ((exec_adopt s tag p).symm.trans h) (fun u _ hu => ownAdopt_scheduleLaw hu) hs
    | revert tag p =>
      exact hP.takeRequest ((exec_revert s tag p).symm.trans h) (fun u _ hu => ownRevert_scheduleLaw hu) hs
    | frameStart => exact hP.onEvent ((exec_frameStart s).symm.trans h) (fun u _ hu => State.startFrame_scheduleLaw hu) hs
    | replySent => exact hP.onEvent ((exec_replySent s).symm.trans h) (fun u _ hu => State.endReply_scheduleLaw hu) hs
    | powerOnReset pinLow rate1 rate0 =>
      obtain rfl := Host.Outcome.next.inj h
      exact State.resetBlocks_scheduleLaw _
    | resetPinRelease rate1 rate0 =>
      obtain rfl := Host.Outcome.next.inj h
      split
      · exact hs
      · exact State.resetBlocks_scheduleLaw _
      · exact State.resetBlocks_scheduleLaw _
    | _ => cases hown

end Sys2Proof.Machine
end

section
/-! Reset values and resets; CONFIGURE, START and STOP while no frames stop; the frame start. -/

namespace Sys2Proof.Machine

variable {s : State} {tag : Byte}

/-! ### Replies as the statements write them -/

theorem State.pushReply_refuseWith (r : ResultCode) (n : Nat) :
    s.pushReply tag (.refuseWith r n) = s.replied tag r n [] := rfl

/-! ### Resets (R22, R163, R164) -/

/-- Settles O3. -/
theorem resetValues : Obligations.ResetValues := by
  have entries : ∀ a, State.reset.entry a = ⟨.absent, 0, 0, none, false, none⟩ := fun a => Table.get_replicate _ a
  have tokens : ∀ a, State.reset.engine.tokens.get a = 0 := fun a => Table.get_replicate _ a
  have draft : ∀ id, State.reset.sched.draft.circuits.get id = none := fun id => Table.get_replicate _ id
  exact ⟨rfl, rfl, rfl, rfl, rfl, rfl, rfl, rfl, rfl, rfl, rfl, rfl, rfl, draft, rfl, rfl, entries, rfl, rfl, rfl, tokens,
    rfl, rfl, rfl, rfl, rfl, rfl, rfl, rfl, rfl, rfl, rfl, rfl, rfl⟩

/-- The link rate of the straps (Table 8.1). -/
theorem rateOf_of_mem {rate1 rate0 : Bool} {rate : LinkRate}
    (h : (rate1, rate0, rate) ∈ [(false, false, LinkRate.baud115200), (false, true, .baud460800),
      (true, false, .baud1000000), (true, true, .baud3000000)]) : rateOf rate1 rate0 = rate := by
  simp only [List.mem_cons, Prod.mk.injEq, List.not_mem_nil, or_false] at h
  obtain ⟨rfl, rfl, rfl⟩ | ⟨rfl, rfl, rfl⟩ | ⟨rfl, rfl, rfl⟩ | ⟨rfl, rfl, rfl⟩ := h <;> rfl

/-- Settles O51. -/
theorem resetsByPowerAndPin : Obligations.ResetsByPowerAndPin := by
  refine ⟨fun rate1 rate0 rate s hrate => ?_, fun s hs => ?_⟩
  · obtain rfl := rateOf_of_mem hrate
    have release : exec (.resetPinRelease rate1 rate0) s = execResetPinRelease rate1 rate0 s := rfl
    refine ⟨rfl, rfl, fun hpin => ?_, fun hpin => ?_, fun hpin => ?_⟩
    · rw [release, execResetPinRelease, hpin]; rfl
    · rw [release, execResetPinRelease, hpin]; rfl
    · rw [release, execResetPinRelease, hpin]
  · rw [exec_resetPinAssert, onEvent_acts hs rfl]
    rfl

/-! ### CONFIGURE (R2, R3) -/

/-- The first field that fails, from the fields' tests in their order, the first of them numbered `k`. -/
theorem firstFault_zipIdx {tests : List Bool} {n : Nat} (h : tests.findIdx? (· == false) = some n) (k : Nat) :
    firstFault ((tests.zipIdx k).map fun x => (x.2, !x.1)) = some (n + k) := by
  induction tests generalizing n k with
  | nil => cases h
  | cons test rest ih =>
    cases test with
    | false =>
      obtain rfl : 0 = n := by simpa [List.findIdx?_cons] using h
      simp [firstFault]
    | true =>
      simp only [List.findIdx?_cons] at h
      obtain ⟨m, hm, rfl⟩ : ∃ m, rest.findIdx? (· == false) = some m ∧ m + 1 = n := by simpa using h
      have := ih hm (k + 1)
      simpa [firstFault, Nat.add_assoc, Nat.add_comm 1 k] using this

/-- Fields whose tests all hold leave none that fails. -/
theorem firstFault_eq_none {fields : List (Nat × Bool)} (h : ∀ f ∈ fields, f.2 = false) : firstFault fields = none := by
  induction fields with
  | nil => rfl
  | cons f rest ih =>
    rw [firstFault, h f List.mem_cons_self]
    exact ih fun g hg => h g (List.mem_cons_of_mem _ hg)

/-- The rate that a code names, with its bit times per unit of the period (R1, R2). -/
theorem rateOfCode_of_mem {code : Nat} {rate : BitRate} {bits : Nat}
    (h : (code, rate, bits) ∈ [(1, BitRate.mbit2, 20), (2, .mbit5, 50), (3, .mbit10, 100)]) :
    rateOfCode code = some rate ∧ rate.bitsPerUnit = bits := by
  simp only [List.mem_cons, Prod.mk.injEq, List.not_mem_nil, or_false] at h
  obtain ⟨rfl, rfl, rfl⟩ | ⟨rfl, rfl, rfl⟩ | ⟨rfl, rfl, rfl⟩ := h <;> exact ⟨rfl, rfl⟩

/-- Settles O30: no field fails, and the trunk state decides. -/
theorem configureInstallsRecord : Obligations.ConfigureInstallsRecord := by
  intro tag code slots hi lo miss loss retry window rate bits s hs hcode hs1 hs2 hp1 hp2 hp hm1 hm2 hl hr hw installed
  obtain ⟨hrate, hbits⟩ := rateOfCode_of_mem hcode
  have hw' : window.toNat ≠ 0 := fun h => hw (BitVec.eq_of_toNat_eq h)
  generalize hpay : [code, slots, hi, lo, miss, loss, retry, window] = p
  have length : fixedLength 8 p = true := by rw [← hpay]; rfl
  have record : configureRecord p = ⟨rate, slots.toNat, hi.toNat * 256 + lo.toNat, miss.toNat, loss.toNat, retry.toNat,
      window.toNat⟩ := by
    rw [← hpay]
    exact congrArg (fun r : BitRate => (⟨r, slots.toNat, hi.toNat * 256 + lo.toNat, miss.toNat, loss.toNat, retry.toNat,
      window.toNat⟩ : ConfigRecord)) (by rw [show numAt _ 0 = code.toNat from rfl, hrate]; rfl)
  have fields : configureFault p = none := by
    rw [← hpay]
    apply firstFault_eq_none
    simp only [numAt, num2At, byteAt, List.getD_cons_zero, List.getD_cons_succ, periodTooShort, hrate, hbits,
      bitTimesNeeded, Config.leastSlots, Config.mostSlots, List.forall_mem_cons, List.not_mem_nil, Option.isNone_some,
      Bool.or_eq_false_iff, decide_eq_false_iff_not, not_or, not_lt]
    exact ⟨trivial, ⟨hs1, hs2⟩, ⟨⟨hp1, hp2⟩, hp⟩, ⟨hm1, hm2⟩, ⟨by omega, by omega⟩, hr, hw', fun _ h => h.elim⟩
  rw [exec_configure, length, takeRequest_taken hs, ownConfigure, fields, checkFields, record]
  cases ht : s.port.trunk with
  | starting | running | halted | off => simp only [configureByState, ht]; rfl
  | ready =>
    cases hl : s.sched.live with
    | none => simp only [configureByState, ht, State.liveBeyond, hl]; rfl
    | some l =>
      simp only [configureByState, ht, State.liveBeyond, hl, LiveSchedule.beyond, lowestSlot]
      cases (List.range 64).find? fun k => decide (slots.toNat ≤ k) && l.uses k <;> rfl

/-- The tests of CONFIGURE's fields in their order, the period's against the rate that a legal code names (R2). -/
theorem configureFault_eq {code slots hi lo miss loss retry window : Byte} (hcode : 1 ≤ code.toNat ∧ code.toNat ≤ 3) :
    configureFault [code, slots, hi, lo, miss, loss, retry, window] = firstFault (([
      decide (1 ≤ code.toNat ∧ code.toNat ≤ 3), decide (16 ≤ slots.toNat ∧ slots.toNat ≤ 64),
      decide (10 ≤ hi.toNat * 256 + lo.toNat ∧ hi.toNat * 256 + lo.toNat ≤ 2000 ∧
        32 + 128 * slots.toNat ≤ (hi.toNat * 256 + lo.toNat) *
          if code = 1 then 20 else if code = 2 then 50 else 100),
      decide (1 ≤ miss.toNat ∧ miss.toNat ≤ 15), decide (2 ≤ loss.toNat ∧ miss.toNat < loss.toNat),
      decide (retry.toNat ≤ 7), decide (window ≠ 0)].zipIdx 1).map fun x => (x.2, !x.1)) := by
  obtain ⟨bits, rate, hrate, hbits, hif⟩ : ∃ bits rate, rateOfCode code.toNat = some rate ∧ rate.bitsPerUnit = bits ∧
      (if code = 1 then 20 else if code = 2 then 50 else 100) = bits := by
    have cases : code.toNat = 1 ∨ code.toNat = 2 ∨ code.toNat = 3 := by omega
    obtain h | h | h := cases
    · obtain rfl : code = 1 := BitVec.eq_of_toNat_eq h
      exact ⟨20, .mbit2, rfl, rfl, rfl⟩
    · obtain rfl : code = 2 := BitVec.eq_of_toNat_eq h
      exact ⟨50, .mbit5, rfl, rfl, rfl⟩
    · obtain rfl : code = 3 := BitVec.eq_of_toNat_eq h
      exact ⟨100, .mbit10, rfl, rfl, rfl⟩
  have hwindow : window = 0 ↔ window.toNat = 0 := ⟨fun h => by rw [h]; rfl, fun h => BitVec.eq_of_toNat_eq h⟩
  simp only [configureFault, numAt, num2At, byteAt, List.getD_cons_zero, List.getD_cons_succ, periodTooShort, hrate,
    hbits, hif, bitTimesNeeded, Config.leastSlots, Config.mostSlots, List.zipIdx_cons, List.zipIdx_nil, List.map_cons,
    List.map_nil, Option.isNone_some, hcode, and_self, decide_true, Bool.not_true, ← Bool.decide_or, ← decide_not, ne_eq,
    hwindow]
  congr 1
  simp only [List.cons.injEq, Prod.mk.injEq, decide_eq_decide, Nat.reduceAdd, true_and, and_true]
  omega

/-- Settles O31: a code that names no rate is the first field; with a legal code the tests agree field by field. -/
theorem configureRefusesFirstBadField : Obligations.ConfigureRefusesFirstBadField := by
  intro tag code slots hi lo miss loss retry window n s hs hn
  have fault : configureFault [code, slots, hi, lo, miss, loss, retry, window] = some (n + 1) := by
    by_cases hcode : 1 ≤ code.toNat ∧ code.toNat ≤ 3
    · rw [configureFault_eq hcode]
      exact firstFault_zipIdx hn 1
    · obtain rfl : 0 = n := by simpa [List.findIdx?_cons, hcode] using hn
      have none : rateOfCode code.toNat = none := by
        unfold rateOfCode
        split <;> simp_all
      rw [configureFault, show numAt _ 0 = code.toNat from rfl, none]
      rfl
  rw [exec_configure, show fixedLength 8 _ = true from rfl, takeRequest_taken hs, ownConfigure, fault, checkFields,
    State.pushReply_refuseWith]

/-! ### START and STOP (R5, R7, R8) -/

/-- Settles O32. -/
theorem startArmsFrameZero : Obligations.StartArmsFrameZero := by
  intro tag s hs
  rw [exec_start, show fixedLength 0 [] = true from rfl, takeRequest_taken hs]
  cases ht : s.port.trunk with
  | ready => cases hl : s.sched.live <;> simp only [ownStart, ht, hl] <;> rfl
  | off | starting | running | halted => simp only [ownStart, ht]; rfl

/-- Settles O33. -/
theorem stopByTrunkState : Obligations.StopByTrunkState := by
  intro tag s hs
  rw [exec_stop, show fixedLength 0 [] = true from rfl, takeRequest_taken hs]
  refine ⟨fun ht => ?_, fun ht => ?_, fun ht => ?_, fun ht hpos => ?_⟩
  · simp only [ownStop, ht]; rfl
  · simp only [ownStop, ht]; rfl
  · simp only [ownStop, ht]; rfl
  · have pending : s.stopRunning = s.withPort { s.port with stopPending := true } := if_neg hpos
    cases hr : s.port.trunk with
    | starting | running => simp only [ownStop, hr, pending]; rfl
    | off | ready | halted => rw [hr] at ht; cases ht

/-! ### Frame start (R10, R11, R13, R19, R76, R101, R127) -/

/-- The port at a frame start, in the words of the rules. -/
theorem Port.startFrame_eq (p : Port) (adopting : Bool) (ht : p.timer ≠ .disarmed) :
    let f := if p.timer = .firstFrame then p.frameNo else p.frameNo + 1
    p.startFrame adopting = { p with
      timer := .nextFrame, frameNo := f, streak := if p.collided then p.streak else 0
      collided := false, hit := false, pair := none
      tx := some (0x3C :: (halfBytes f ++ [crc8 (halfBytes f)]))
      pos := .marker (adopting && decide (f.toNat % 16 = 0) && decide (p.trunk = .running ∨ f = 16)) } := by
  have number : p.nextFrameNo = if p.timer = .firstFrame then p.frameNo else p.frameNo + 1 := by
    unfold Port.nextFrameNo
    cases h : p.timer with
    | disarmed => exact absurd h ht
    | firstFrame => rfl
    | nextFrame => rfl
  simp only [Port.startFrame, number, roundStart, Bool.decide_or]
  rfl

/-- Frames since heard, in the words of R76. -/
theorem StationEntry.advance_eq (e : StationEntry) : e.advance =
    if (e.state = .active ∨ e.state = .faulty) ∧ e.sinceHeard < 64 then { e with sinceHeard := e.sinceHeard + 1 }
    else e := by
  simp [StationEntry.advance, show Config.heardLimit = 64 from rfl]

/-- The due flag, in the words of R101. -/
theorem Attempt.markDueAt_eq (f : FrameNo) (window : Nat) (a : Attempt) : a.markDueAt f window =
    if a.state = .waiting ∧ a.dueFrame = some f ∧ a.timedOutAt f window = false then { a with due := true } else a := by
  simp [Attempt.markDueAt, and_assoc]

/-- The transaction of a run's current item passed through a function. -/
def BatchState.mapAttempt (f : Attempt → Attempt) : BatchState → BatchState
  | .empty => .empty
  | .loaded l => .loaded l
  | .running l r => .running l { r with current := r.current.map fun c => ⟨c.index, f c.attempt⟩ }

/-- The batch item at a frame start in RUNNING (R127). -/
theorem State.markBatchDue_eq (s : State) : s.markBatchDue =
    s.setBatch (s.batch.state.mapAttempt (Attempt.markDueAt s.frame s.cfg.deferWindow)) := by
  obtain ⟨port, sched, roster, engine, ⟨state, preset⟩, delivery, link, draws, moments, pending⟩ := s
  cases state with
  | empty => rfl
  | loaded l => rfl
  | running l r =>
    obtain ⟨tag, passes, pass, current, waiting, abort, decided, outcomes⟩ := r
    cases current <;> rfl

/-- What stations, host records and the batch item do at a frame start in RUNNING (R76, R101, R127). -/
theorem State.runningFrameStart_eq (s : State) : s.runningFrameStart =
    ((s.mapEntries StationEntry.advance).withEngine { s.engine with queue := s.engine.queue.map fun r =>
      { r with attempt := r.attempt.markDueAt s.port.frameNo s.cfg.deferWindow } }).setBatch
        (s.batch.state.mapAttempt (Attempt.markDueAt s.port.frameNo s.cfg.deferWindow)) := by
  rw [State.runningFrameStart, State.markBatchDue_eq]
  rfl

/-- Settles O53. -/
theorem frameStartOpensFrame : Obligations.FrameStartOpensFrame := by
  intro s hs hrun htimer hpos hstop f port due
  have occasion : s.timerExpires = true := by simp [State.timerExpires, hrun, htimer, hpos, hstop]
  have hport : s.port.startFrame s.sched.adoptPending = port := Port.startFrame_eq s.port _ htimer
  have hdue : ∀ a : Attempt, a.markDueAt f s.cfg.deferWindow = due a := fun a => a.markDueAt_eq _ _
  rw [exec_frameStart, onEvent_acts hs occasion, State.startFrame, hport]
  refine ⟨fun ht => ?_, fun ht => ?_⟩
  · rw [if_neg (by simp [port, ht])]; rfl
  · have entries : StationEntry.advance = fun e => if (e.state = .active ∨ e.state = .faulty) ∧ e.sinceHeard < 64 then
        { e with sinceHeard := e.sinceHeard + 1 } else e := funext StationEntry.advance_eq
    have attempts : Attempt.markDueAt f s.cfg.deferWindow = due := funext hdue
    rw [if_pos (by exact ht), State.runningFrameStart_eq, entries]
    change Host.Outcome.next (((s.withPort port).mapEntries _ |>.withEngine { s.engine with
      queue := s.engine.queue.map fun r => { r with attempt := r.attempt.markDueAt f s.cfg.deferWindow } }).setBatch
        (s.batch.state.mapAttempt (Attempt.markDueAt f s.cfg.deferWindow))) = _
    rw [attempts]
    cases s.batch.state <;> rfl

end Sys2Proof.Machine
end

section
/-! Host records that complete together, an adoption carried out, and the responses to a frame start (R6, R39, R44 to R48,
R106, R108, R127). -/

namespace Sys2Proof.Machine

variable {s t : State}

/-! ### Tags in the host queue (R158) -/

/-- Records whose tags differ are the same once their tags agree. -/
theorem HostRecord.eq_of_tag {queue : List HostRecord} (h : (queue.map HostRecord.tag).Nodup) {q r : HostRecord}
    (hq : q ∈ queue) (hr : r ∈ queue) (ht : q.tag = r.tag) : q = r :=
  List.inj_on_of_nodup_map h hq hr ht

/-- The record with a tag leaves a queue whose tags differ: the others are those with another tag. -/
theorem eraseP_tag_eq_filter {queue : List HostRecord} (h : (queue.map HostRecord.tag).Nodup) (tag : Byte) :
    queue.eraseP (fun x => x.tag == tag) = queue.filter fun x => x.tag ≠ tag := by
  induction queue with
  | nil => rfl
  | cons q rest ih =>
    obtain ⟨hnot, hrest⟩ := List.nodup_cons.mp h
    by_cases hq : q.tag = tag
    · rw [List.eraseP_cons_of_pos (by simpa using hq), List.filter_cons_of_neg (by simpa using hq)]
      refine (List.filter_eq_self.mpr fun x hx => ?_).symm
      have : x.tag ≠ tag := fun hxt => hnot (List.mem_map.mpr ⟨x, hx, by rw [hxt, hq]⟩)
      simpa using this
    · rw [List.eraseP_cons_of_neg (by simpa using hq), List.filter_cons_of_pos (by simpa using hq), ih hrest]

theorem State.Accounting.queueTags_nodup (h : s.Accounting) : (s.engine.queue.map HostRecord.tag).Nodup :=
  (List.nodup_append.mp (h.tags.nodup_iff.mp h.distinct)).1

/-! ### Completion (R108) -/

section
variable (r : HostRecord) (o : TxnOutcome) (reason : Byte) (data : List Byte)

/-- Of the engine only the queue changes. -/
theorem State.completeHost_engine : (s.completeHost r o reason data).engine =
    { s.engine with queue := s.engine.queue.eraseP fun x => x.tag == r.tag } := by
  unfold State.completeHost
  cases r.attempt.wasIssued <;> rfl

@[simp] theorem State.completeHost_rollCursor : (s.completeHost r o reason data).roster.rollCursor = s.roster.rollCursor := by
  unfold State.completeHost
  cases r.attempt.wasIssued <;> rfl
@[simp] theorem State.completeHost_presenceCursor :
    (s.completeHost r o reason data).roster.presenceCursor = s.roster.presenceCursor := by
  unfold State.completeHost
  cases r.attempt.wasIssued <;> rfl

end

section
variable (o : TxnOutcome) (rs : List HostRecord) (s : State)

@[simp] theorem State.completeAll_rollCursor : (s.completeAll o rs).roster.rollCursor = s.roster.rollCursor := by
  induction rs generalizing s with
  | nil => rfl
  | cons r rest ih => rw [State.completeAll_cons, ih, State.completeHost_rollCursor]
@[simp] theorem State.completeAll_presenceCursor :
    (s.completeAll o rs).roster.presenceCursor = s.roster.presenceCursor := by
  induction rs generalizing s with
  | nil => rfl
  | cons r rest ih => rw [State.completeAll_cons, ih, State.completeHost_presenceCursor]

/-- Each record's DONE record takes the place of its reservation (R108, R139). -/
theorem State.completeAll_delivery : (s.completeAll o rs).delivery = { s.delivery with
    hostRes := s.delivery.hostRes - rs.length
    records := s.delivery.records ++ rs.map fun r => .done r.tag o 0 [] } := by
  induction rs generalizing s with
  | nil => simp [State.completeAll]
  | cons r rest ih =>
    rw [State.completeAll_cons, ih, State.completeHost_delivery]
    simp [Delivery.appendDone, Delivery.append, Nat.sub_sub, Nat.add_comm]

/-- Each record's tag is released (R108, R158). -/
theorem State.completeAll_link :
    (s.completeAll o rs).link = { s.link with tags := s.link.tags.diff (rs.map HostRecord.tag) } := by
  induction rs generalizing s with
  | nil => simp [State.completeAll]
  | cons r rest ih =>
    rw [State.completeAll_cons, ih, State.completeHost_link]
    simp [List.diff_cons]

/-- The records with other tags stay in the queue (R108). -/
theorem State.completeAll_engine (h : (s.engine.queue.map HostRecord.tag).Nodup) : (s.completeAll o rs).engine =
    { s.engine with queue := s.engine.queue.filter fun x => x.tag ∉ rs.map HostRecord.tag } := by
  induction rs generalizing s with
  | nil => simp [State.completeAll]
  | cons r rest ih =>
    have queue : (s.completeHost r o 0 []).engine.queue = s.engine.queue.filter fun x => x.tag ≠ r.tag := by
      rw [State.completeHost_engine, eraseP_tag_eq_filter h]
    have nodup : ((s.completeHost r o 0 []).engine.queue.map HostRecord.tag).Nodup := by
      rw [queue]
      exact h.sublist (List.filter_sublist.map _)
    rw [State.completeAll_cons, ih _ nodup, queue, State.completeHost_engine, List.filter_filter]
    simp only [List.map_cons, List.mem_cons, not_or, Bool.decide_and, Bool.and_comm, ne_eq]

/-- The marker of a station is cleared where one of the records to it had been issued (R108). -/
theorem State.completeAll_entry (a : StAddr) : (s.completeAll o rs).entry a = { s.entry a with
    marker := if ∃ r ∈ rs, r.attempt.wasIssued = true ∧ r.request.station = a then none else (s.entry a).marker } := by
  induction rs generalizing s with
  | nil => simp [State.completeAll]
  | cons r rest ih =>
    rw [State.completeAll_cons, ih, State.completeHost_entry]
    by_cases hr : r.attempt.wasIssued = true ∧ r.request.station = a
    · simp [hr]
    · rw [if_neg hr]
      have : (∃ x ∈ r :: rest, x.attempt.wasIssued = true ∧ x.request.station = a) ↔
          ∃ x ∈ rest, x.attempt.wasIssued = true ∧ x.request.station = a := by
        simp [hr]
      simp only [this]

end

/-- The records of a queue that have a property complete: the others stay. -/
theorem filter_not_mem_tags {queue : List HostRecord} (h : (queue.map HostRecord.tag).Nodup) (p : HostRecord → Bool) :
    (queue.filter fun x => x.tag ∉ (queue.filter p).map HostRecord.tag) = queue.filter fun x => !p x := by
  apply List.filter_congr
  intro x hx
  have : x.tag ∈ (queue.filter p).map HostRecord.tag ↔ p x = true := by
    constructor
    · intro hm
      obtain ⟨y, hy, hyx⟩ := List.mem_map.mp hm
      obtain ⟨hyq, hpy⟩ := List.mem_filter.mp hy
      rwa [← HostRecord.eq_of_tag h hyq hx hyx]
    · intro hp
      exact List.mem_map.mpr ⟨x, List.mem_filter.mpr ⟨hx, hp⟩, rfl⟩
  simp [this]

/-! ### Carrying out an adoption (R44 to R47, R136) -/

/-- Same direction and same station, in the words of R44. -/
theorem CircuitDef.sameEnds_iff (c d : CircuitDef) :
    c.sameEnds d = true ↔ d.isOut = c.isOut ∧ d.station? = c.station? := by
  obtain ⟨ce, cdiv, cph, cs⟩ := c
  obtain ⟨de, ddiv, dph, ds⟩ := d
  cases ce with
  | out x n =>
    cases de with
    | out y m =>
      constructor
      · intro h
        obtain rfl : x = y := by simpa [CircuitDef.sameEnds] using h
        exact ⟨rfl, by cases x <;> rfl⟩
      · rintro ⟨-, h⟩
        cases x <;> cases y <;> simp_all [CircuitDef.sameEnds, CircuitDef.station?]
    | inn y f => simp [CircuitDef.sameEnds, CircuitDef.isOut]
  | inn x f =>
    cases de with
    | out y m => simp [CircuitDef.sameEnds, CircuitDef.isOut]
    | inn y g =>
      have : x = y ↔ y = x := eq_comm
      simpa [CircuitDef.sameEnds, CircuitDef.isOut, CircuitDef.station?] using this

theorem closesId_iff (old : Option LiveCircuit) (new : Option CircuitDef) : closesId old new = true ↔
    ∃ c, old = some c ∧ ∀ d, new = some d → d.isOut ≠ c.defn.isOut ∨ d.station? ≠ c.defn.station? := by
  cases old with
  | none => simp [closesId]
  | some c =>
    cases new with
    | none => simp [closesId]
    | some d =>
      have h := c.defn.sameEnds_iff d
      cases hs : c.defn.sameEnds d with
      | true =>
        obtain ⟨hout, hst⟩ := h.mp hs
        simp [closesId, hs, hout, hst]
      | false =>
        have hne : ¬ (d.isOut = c.defn.isOut ∧ d.station? = c.defn.station?) := fun hc => by
          rw [h.mpr hc] at hs; cases hs
        simp only [closesId, hs, Bool.not_false, Option.some.injEq, exists_eq_left', forall_eq', true_iff]
        exact not_and_or.mp hne

theorem State.mem_closedIds (id : CircuitId) : id ∈ s.closedIds ↔ ∃ c, s.circuit id = some c ∧
    ∀ d, s.sched.draft.circuits.get id = some d → d.isOut ≠ c.defn.isOut ∨ d.station? ≠ c.defn.station? := by
  rw [State.closedIds, List.mem_filter, closesId_iff, ← State.circuit_eq_liveTable]
  exact and_iff_right (List.mem_finRange id)

theorem State.closedIds_ascending (s : State) : s.closedIds.Pairwise (· < ·) :=
  (List.pairwise_lt_finRange 32).filter _

/-- The live circuit that an adoption makes of an id, in the words of R44, R46 and R47. -/
theorem adoptId_some (entries : Table StationEntry 30) (old : Option LiveCircuit) (d : CircuitDef) :
    adoptId entries old (some d) = some ⟨d, match old with
      | none => CircuitRun.fresh (d.newRunState entries)
      | some c =>
        if d.isOut = c.defn.isOut ∧ d.station? = c.defn.station? then
          if d.width = c.defn.width then
            { c.run with queue := if d.isOut then c.run.queue.take d.depth else c.run.queue }
          else { c.run with queue := [], lastSent := none, lastDelivered := none }
        else CircuitRun.fresh (d.newRunState entries)⟩ := by
  cases old with
  | none => rfl
  | some c =>
    by_cases hs : c.defn.sameEnds d = true
    · have he := (c.defn.sameEnds_iff d).mp hs
      simp only [adoptId, if_pos hs, if_pos he, LiveCircuit.keep]
      by_cases hw : d.width = c.defn.width
      · cases d.isOut <;> simp [hw]
      · simp [hw]
    · have he : ¬ (d.isOut = c.defn.isOut ∧ d.station? = c.defn.station?) := fun h => hs ((c.defn.sameEnds_iff d).mpr h)
      simp only [adoptId, if_neg hs, if_neg he, CircuitDef.makeNew]

/-- The schedule block after an adoption is what the rules make of it (R44 to R47). -/
theorem State.adoptsTo_of_sched (h : t.sched = s.carryOutAdoption.sched) :
    AdoptsTo (fun id => s.circuit id) s.roster.entries s.sched.draft t s.closedIds where
  closed_iff := s.mem_closedIds
  ascending := s.closedIds_ascending
  draftKept := by rw [h, State.carryOutAdoption_draft]
  pending := by rw [h, State.carryOutAdoption_adoptPending]
  pairs := by rw [h, State.carryOutAdoption_live]; rfl
  circuits id := by
    have adopted : t.circuit id = adoptId s.roster.entries (s.circuit id) (s.sched.draft.circuits.get id) := by
      rw [State.circuit_eq_liveTable s, State.circuit, h, State.carryOutAdoption_live]
      exact Table.get_ofFn _ id
    rw [adopted]
    cases hd : s.sched.draft.circuits.get id with
    | none => unfold adoptId; rfl
    | some d => exact adoptId_some _ _ _

/-- A circuit kept or made new holds no more buffers than before (R46, R47). -/
theorem heldBy_adoptId_le (entries : Table StationEntry 30) (old : Option LiveCircuit) (new : Option CircuitDef) :
    heldBy (adoptId entries old new) ≤ heldBy old := by
  have made : ∀ d, heldBy (some (CircuitDef.makeNew entries d)) = 0 := fun d => rfl
  cases new with
  | none => simp [adoptId, heldBy]
  | some d =>
    cases old with
    | none => exact (made d).le
    | some c =>
      simp only [adoptId]
      split
      · have trimmed : ∀ n, (({ c.run with queue := c.run.queue.take n } : CircuitRun)).held ≤ c.run.held := by
          intro n
          have : ((c.run.queue.take n).map List.length).sum ≤ (c.run.queue.map List.length).sum :=
            List.Sublist.sum_le_sum ((List.take_sublist n _).map _) fun _ _ => Nat.zero_le _
          simp only [CircuitRun.held, CircuitRun.queueHeld]
          omega
        unfold LiveCircuit.keep
        split
        · exact trimmed 0
        · split
          · exact trimmed _
          · exact Nat.le_refl _
      · rw [made]; exact Nat.zero_le _

/-- The buffers let go return to the pool (R136). -/
theorem State.carryOutAdoption_balance (s : State) : s.carryOutAdoption.delivery.free + s.carryOutAdoption.circuitsHeld =
    s.delivery.free + s.circuitsHeld := by
  have held : s.carryOutAdoption.circuitsHeld = s.adoptedTable.sum heldBy := by
    simp only [State.circuitsHeld, State.liveTable, State.carryOutAdoption_live]
  have fewer : s.adoptedTable.sum heldBy ≤ s.circuitsHeld := by
    apply Table.sum_le_sum
    intro i
    rw [State.adoptedTable, Table.get_ofFn]
    exact heldBy_adoptId_le _ _ _
  have free : s.carryOutAdoption.delivery.free = s.delivery.free + (s.circuitsHeld - s.adoptedTable.sum heldBy) := rfl
  omega

/-- Of the delivery queue only the free count changes. -/
theorem State.carryOutAdoption_delivery (s : State) :
    s.carryOutAdoption.delivery = { s.delivery with free := s.carryOutAdoption.delivery.free } := rfl

/-! ### An event offered (R141) -/

theorem Delivery.offerEvent_eq (e : EventRecord) (d : Delivery) : d.offerEvent e =
    if d.occupancy < 128 then { d with records := d.records ++ [.event e] } else { d with folded := d.folded.bump e } := by
  obtain ⟨h, he⟩ | ⟨h, he⟩ := d.offerEvent_cases e
  · rw [if_pos h, he]; rfl
  · rw [if_neg (by omega), he]

/-! ### The responses to a frame start -/

/-- The entry of a station at the frame start that enters RUNNING (R76). -/
theorem StationEntry.advance_sinceHeard (e : StationEntry) : e.advance = { e with
    sinceHeard := if (e.state = .active ∨ e.state = .faulty) ∧ e.sinceHeard < 64 then e.sinceHeard + 1 else e.sinceHeard } := by
  rw [StationEntry.advance_eq]
  split <;> rfl

/-- The timed-out records complete, the others stay (R106). -/
theorem State.timeOutRecords_engine (h : s.Accounting) : s.timeOutRecords.engine = { s.engine with
    queue := s.engine.queue.filter fun r => !r.attempt.timedOutAt s.port.frameNo s.cfg.deferWindow } := by
  rw [State.timeOutRecords, State.completeAll_engine _ _ _ h.queueTags_nodup, State.timedOutRecords,
    filter_not_mem_tags h.queueTags_nodup]
  rfl

/-- A timed-out transaction has been issued (R106). -/
theorem Attempt.wasIssued_of_timedOutAt {f : FrameNo} {window : Nat} {a : Attempt} (h : a.timedOutAt f window = true) :
    a.wasIssued = true := by
  simp only [Attempt.timedOutAt, Bool.and_eq_true, beq_iff_eq] at h
  simp [Attempt.wasIssued, h.1.1]

/-- The schedule block and the pool after an adoption with its record (R48). -/
theorem State.adoptWithRecord_delivery (s : State) : s.adoptWithRecord.delivery =
    if s.delivery.occupancy < 128 then { s.delivery with
      free := s.carryOutAdoption.delivery.free
      records := s.delivery.records ++ [.event (.schedule s.port.frameNo s.closedIds)] }
    else { s.delivery with
      free := s.carryOutAdoption.delivery.free, folded.schedule := satInc s.delivery.folded.schedule } := by
  rw [State.adoptWithRecord, State.offerEvent_delivery, Delivery.offerEvent_eq, State.frame_eq,
    State.carryOutAdoption_delivery]
  generalize s.carryOutAdoption.delivery.free = free
  have occupancy : { s.delivery with free := free }.occupancy = s.delivery.occupancy := rfl
  rw [occupancy]
  split <;> rfl

theorem State.adoptWithRecord_free (s : State) : s.adoptWithRecord.delivery.free = s.carryOutAdoption.delivery.free := by
  rw [State.adoptWithRecord, State.offerEvent_delivery, Delivery.offerEvent_free]

/-- An adoption with its record is carried out as the rules say (R44 to R48). -/
theorem State.adopted_of_adoptWithRecord (sched : t.sched = s.adoptWithRecord.sched)
    (free : t.delivery.free = s.adoptWithRecord.delivery.free) (roster : t.roster = s.roster) (engine : t.engine = s.engine)
    (batch : t.batch = s.batch) : Adopted s t s.closedIds where
  schedule := State.adoptsTo_of_sched (sched.trans s.adoptWithRecord_sched)
  pool := by
    rw [free, State.adoptWithRecord_free, State.circuitsHeld_congr (sched.trans s.adoptWithRecord_sched)]
    exact s.carryOutAdoption_balance
  others := ⟨roster, engine, batch⟩

/-- The state that enters RUNNING, before its TRUNK record (R6, R76). -/
theorem State.enterRunning_eq (s : State) : s.enterRunning =
    (s.withPort { s.port with trunk := .running }).runningFrameStart.offerEvent (.trunk .running s.port.frameNo none) := by
  rw [State.enterRunning, State.frame_eq]

/-- Settles O54: each response is its row's act, taken where it is owed. -/
theorem frameStartResponses : Obligations.FrameStartResponses := by
  intro s hheld
  refine ⟨?entry, ?adoption, ?later, ?timeouts, ?item⟩
  case entry =>
    intro adopting ht hpos hf
    have owed : s.owesEntry = true := by simp [State.owesEntry, ht, hpos, hf, FramePos.inMarker]
    have due : ∀ a : Attempt, a.markDueAt 16 s.cfg.deferWindow = if a.state = .waiting ∧ a.dueFrame = some 16 ∧
        a.timedOutAt 16 s.cfg.deferWindow = false then { a with due := true } else a := fun a => a.markDueAt_eq _ _
    refine ⟨s.enterRunning, by rw [exec_enterRunning, onOwed_acts hheld owed], ?_⟩
    rw [State.enterRunning_eq, State.runningFrameStart_eq, hf]
    refine ⟨rfl, rfl, fun a => ?_, ?_, rfl, ⟨?_, ?_⟩, rfl, rfl⟩
    · rw [← StationEntry.advance_sinceHeard]
      exact Table.get_map _ _ _
    · rw [State.offerEvent_delivery, Delivery.offerEvent_eq]; rfl
    · simp only [State.offerEvent_engine, State.setBatch_engine, State.withEngine_engine, State.withPort_port, hf,
        State.withPort_engine, ← due]; rfl
    · simp only [State.offerEvent_batch, State.setBatch, State.withPort_batch, State.withPort_port, hf, ← due]
      cases s.batch.state <;> rfl
  case adoption =>
    intro ht hpos hpend
    have entered : s.settleEntry = s := by simp [State.settleEntry, State.owesEntry, ht]
    have owed : s.settleEntry.owesAdoption = true := by simp [entered, State.owesAdoption, ht, hpos, hpend]
    refine ⟨s.adoptAtFrameStart, s.closedIds, ?_, ?_, ?_, ?_, ?_⟩
    · rw [exec_adoptionAtRoundStart, onOwed_acts hheld owed, entered]
    · refine State.adopted_of_adoptWithRecord ?_ ?_ ?_ ?_ ?_ <;> simp only [State.adoptAtFrameStart, State.withPort_sched,
        State.withPort_delivery, State.withPort_roster, State.withPort_engine, State.withPort_batch,
        State.adoptWithRecord_roster, State.adoptWithRecord_engine, State.adoptWithRecord_batch]
    · simp only [State.adoptAtFrameStart, State.withPort_port, State.adoptWithRecord_port]
    · rw [State.adoptAtFrameStart, State.withPort_link, State.adoptWithRecord_link]
    · simp only [State.adoptAtFrameStart, State.withPort_delivery, State.adoptWithRecord_free]
      exact s.adoptWithRecord_delivery
  case later =>
    intro ht hpos
    have entered : s.settleEntry = s := by simp [State.settleEntry, State.owesEntry, ht]
    have idle : s.settleEntry.owesAdoption = false := by simp [entered, State.owesAdoption, hpos]
    simp [onOwed, idle]
  case timeouts =>
    intro adopting ht hpos hacc gone hgone
    have owed : s.owesTimeouts = true := by
      have : s.timedOutRecords ≠ [] := hgone
      simp [State.owesTimeouts, ht, hpos, FramePos.inMarker, this]
    refine ⟨s.timeOutRecords, by rw [exec_deferTimeout, onOwed_acts hheld owed], State.timeOutRecords_engine hacc,
      State.completeAll_delivery _ _ s, State.completeAll_link _ _ s, fun a => ?_, State.completeAll_port _ _ s,
      State.completeAll_sched _ _ s, State.completeAll_batch _ _ s⟩
    have issued : (∃ r ∈ s.timedOutRecords, r.attempt.wasIssued = true ∧ r.request.station = a) ↔
        ∃ r ∈ gone, r.request.station = a :=
      exists_congr fun r => and_congr_right fun hr =>
        and_iff_right (Attempt.wasIssued_of_timedOutAt (List.mem_filter.mp hr).2)
    rw [State.timeOutRecords, State.completeAll_entry]
    simp only [issued]
  case item =>
    intro adopting l r c ht hpos hb hc htime
    have past : c.attempt.timedOutAt s.frame s.cfg.deferWindow = true := htime
    have item : s.timedOutItem = some (l, r, c) := by simp [State.timedOutItem, hb, hc, past]
    have owed : s.owesItemTimeout = true := by simp [State.owesItemTimeout, ht, hpos, FramePos.inMarker, item]
    rw [exec_batchItemTimeout, onOwed_acts hheld owed, State.timeOutItem, item]

end Sys2Proof.Machine
end

section
/-! A slot that opens: the place of the slot, its use by the live schedule, and the unit of a circuit (R14, R26, R27, R58 to
R62, R67). -/

namespace Sys2Proof

theorem Table.set_set {α : Type} {n : Nat} (t : Table α n) (i : Fin n) (a b : α) : (t.set i a).set i b = t.set i b :=
  Table.ext_get fun j => by simp only [Table.get_set]; split <;> rfl

namespace Machine

variable {s : State} {k : Nat} {id : CircuitId} {c c₀ : LiveCircuit}

/-! ### A live circuit replaced -/

theorem State.setCircuit_self (h : s.circuit id = some c) : s.setCircuit id c = s := by
  obtain ⟨l, hl⟩ := Option.isSome_iff_exists.mp (s.live_isSome_of_circuit h)
  have table : s.liveTable = l.circuits := by simp [State.liveTable, hl]
  have kept : s.liveTable.set id (some c) = l.circuits := by
    rw [← h, State.circuit_eq_liveTable, Table.set_get_self, table]
  have live : some { l with circuits := l.circuits } = s.sched.live := hl.symm
  rw [State.setCircuit, kept, State.setLiveTable, hl]
  simp only [live]
  exact s.withSched_self

theorem State.setCircuit_setCircuit (s : State) (id : CircuitId) (c d : LiveCircuit) :
    (s.setCircuit id c).setCircuit id d = s.setCircuit id d := by
  cases hl : s.sched.live with
  | none => simp [State.setCircuit, State.setLiveTable, hl]
  | some l => simp [State.setCircuit, State.setLiveTable, State.liveTable, hl, Table.set_set]

theorem State.setCircuit_withPort (s : State) (p : Port) (id : CircuitId) (c : LiveCircuit) :
    (s.withPort p).setCircuit id c = (s.setCircuit id c).withPort p := by
  cases hl : s.sched.live with
  | none => simp [State.setCircuit, State.setLiveTable, hl]
  | some l =>
    simp only [State.setCircuit, State.setLiveTable, State.liveTable, State.withPort_sched, hl]
    rfl

theorem State.setCircuit_withDelivery (s : State) (d : Delivery) (id : CircuitId) (c : LiveCircuit) :
    (s.withDelivery d).setCircuit id c = (s.setCircuit id c).withDelivery d := by
  cases hl : s.sched.live with
  | none => simp [State.setCircuit, State.setLiveTable, hl]
  | some l =>
    simp only [State.setCircuit, State.setLiveTable, State.liveTable, State.withDelivery_sched, hl]
    rfl

theorem State.circuit_setCircuit_self (h : s.circuit id = some c₀) (c : LiveCircuit) :
    (s.setCircuit id c).circuit id = some c := by
  rw [State.circuit_setCircuit _ h, if_pos rfl]

/-- The pool gives what the new circuit holds and takes back what the old one held (R135, R136). -/
theorem State.rehold_of_circuit (h : s.circuit id = some c₀) (c : LiveCircuit) : s.rehold id c =
    (s.setCircuit id c).withDelivery { s.delivery with free := s.delivery.free + c₀.run.held - c.run.held } := by
  rw [State.rehold_eq, State.setCircuit_withDelivery, h]
  rfl

/-- A circuit that holds as many buffers as before leaves the pool alone. -/
theorem State.rehold_of_held_eq (h : s.circuit id = some c₀) (hh : c.run.held = c₀.run.held) :
    s.rehold id c = s.setCircuit id c := by
  rw [State.rehold_of_circuit h, hh, Nat.add_sub_cancel, ← State.setCircuit_delivery s id c]
  exact State.withDelivery_self _

/-- The flag of R67 is set, and the LOSS record offered where it was clear. -/
theorem State.raiseLoss_of_circuit (h : s.circuit id = some c) (cause : LossCause) : s.raiseLoss id cause =
    (s.setCircuit id { c with run := { c.run with lossReported := true } }).withDelivery
      (if c.run.lossReported = true then s.delivery else s.delivery.offerEvent (.loss id cause s.port.frameNo)) := by
  rw [State.raiseLoss, h]
  by_cases hl : c.run.lossReported = true
  · have same : ({ c with run := { c.run with lossReported := true } } : LiveCircuit) = c := by rw [← hl]
    simp only [if_pos hl, same, State.setCircuit_self h]
    exact (State.withDelivery_self s).symm
  · simp only [if_neg hl, State.frame_eq]
    rw [State.offerEvent, State.onDelivery, State.setCircuit_delivery]

/-- A circuit replaced, with the LOSS event that its new state brings. -/
theorem State.raiseLoss_setCircuit (h : s.circuit id = some c₀) (cause : LossCause) :
    (s.setCircuit id c).raiseLoss id cause =
      (s.setCircuit id { c with run := { c.run with lossReported := true } }).withDelivery
        (if c.run.lossReported = true then s.delivery else s.delivery.offerEvent (.loss id cause s.port.frameNo)) := by
  rw [State.raiseLoss_of_circuit (State.circuit_setCircuit_self h c), State.setCircuit_setCircuit,
    State.setCircuit_delivery, State.setCircuit_port]

/-! ### Where slot `k` opens (R14) -/

theorem State.OpensNext.nextSlot (h : s.OpensNext k) : s.nextSlot = some k := by
  obtain ⟨-, hrun, ⟨adopting, hpos, rfl⟩ | ⟨j, hpos, rfl, hlt⟩⟩ := h
  · simp [State.nextSlot, hrun, hpos]
  · simp [State.nextSlot, hrun, hpos, hlt]

/-- The slot's owner decides in the state with the line released. -/
theorem State.OpensNext.exec_of_openUse {u : State} {mode : SlotMode} (h : s.OpensNext k)
    (hu : (s.withPort s.port.release).openUse k = (u, mode)) :
    exec .slotOpen s = .next (u.withPort { u.port with pos := .slotOpen k mode }) := by
  have occasion : s.nextSlot.isSome = true := by rw [h.nextSlot]; rfl
  rw [exec_slotOpen, onEvent_acts h.1 occasion, State.openNext, h.nextSlot]
  simp only [State.openSlot, hu]

/-- Where the owner sends nothing and changes nothing, only the port's place changes. -/
theorem State.OpensNext.exec_of_no_cell {mode : SlotMode} (h : s.OpensNext k)
    (hu : (s.withPort s.port.release).openUse k = (s.withPort s.port.release, mode)) :
    exec .slotOpen s = .next (s.opened k none mode) := h.exec_of_openUse hu

/-- The owner's change leaves the port alone, and it puts `tx` on the line. -/
theorem State.OpensNext.exec_of_sent {u : State} {tx : Option (List Byte)} {mode : SlotMode} (h : s.OpensNext k)
    (hp : u.port = s.port)
    (hu : (s.withPort s.port.release).openUse k = (u.withPort { s.port with tx := tx, hit := false }, mode)) :
    exec .slotOpen s = .next (u.opened k tx mode) := by
  rw [h.exec_of_openUse hu, State.opened, hp]
  rfl

/-! ### The use of slot `k` (R25 to R27) -/

variable {l : LiveSchedule} {f : FrameNo} {p : Nat}

theorem LiveSchedule.NoPair.not_reply (h : l.NoPair k) : ¬ (k ≠ 0 ∧ k - 1 ∈ l.pairs) :=
  fun ⟨hk, hm⟩ => h.2 _ hm (by omega)

theorem LiveSchedule.use_of_noPair (h : l.NoPair k) : l.use k f = (l.circuitUse k f).getD .unused := by
  rw [LiveSchedule.use, if_neg h.1, if_neg h.not_reply]

theorem LiveSchedule.use_unused (h : l.NoPair k)
    (none : ∀ id c, l.circuits.get id = some c → c.defn.due f = true → k ∉ c.defn.slots) : l.use k f = .unused := by
  have : l.circuitUse k f = Option.none := by
    rw [LiveSchedule.circuitUse, List.findSome?_eq_none_iff]
    intro id _
    cases hc : l.circuits.get id with
    | none => rfl
    | some c =>
      have : ¬ (c.defn.due f = true ∧ k ∈ c.defn.slots) := fun ⟨hd, hk⟩ => none id c hc hd hk
      simp [CircuitDef.positionAt, this]
  rw [LiveSchedule.use_of_noPair h, this, Option.getD_none]

theorem LiveSchedule.Gives.use (h : l.Gives f k id c p) : l.use k f = .circuit id p := by
  obtain ⟨hno, hc, hdue, hk, hnodup, honly⟩ := h
  obtain ⟨hp, hkp⟩ := List.getElem?_eq_some_iff.mp hk
  have mem : k ∈ c.defn.slots := List.mem_of_getElem? hk
  have position : c.defn.positionAt k f = some p := by
    have index : c.defn.slots.idxOf k = p := by rw [← hkp, hnodup.idxOf_getElem]
    rw [CircuitDef.positionAt, if_pos ⟨hdue, mem⟩, index]
  have here : l.circuitUse k f = some (.circuit id p) := by
    rw [LiveSchedule.circuitUse]
    cases hfs : (List.finRange 32).findSome? fun i => match l.circuits.get i with
        | none => none
        | some c => (c.defn.positionAt k f).map (SlotUse.circuit i) with
    | none =>
      have := List.findSome?_eq_none_iff.mp hfs id (List.mem_finRange id)
      simp [hc, position] at this
    | some u =>
      obtain ⟨i, -, hi⟩ := List.exists_of_findSome?_eq_some hfs
      cases hci : l.circuits.get i with
      | none => simp [hci] at hi
      | some d =>
        have due : d.defn.due f = true ∧ k ∈ d.defn.slots := by
          by_contra hn
          simp [hci, CircuitDef.positionAt, hn] at hi
        obtain rfl := honly i d hci due.1 due.2
        simp only [hc, position, Option.map_some] at hi
        exact hi.symm
  rw [LiveSchedule.use_of_noPair hno, here, Option.getD_some]

/-- Slot `k` is the circuit's: the circuit decides. -/
theorem State.openUse_of_gives (hl : s.sched.live = some l) (h : l.Gives s.port.frameNo k id c p) :
    s.openUse k = s.openCircuit id p ∧ s.circuit id = some c := by
  have use : s.slotUse k = .circuit id p := by simp only [State.slotUse, hl, State.frame_eq, h.use]
  refine ⟨by rw [State.openUse, use], ?_⟩
  rw [State.circuit, hl]
  exact h.2.1

/-! ### The cells of an OUT unit (R59) -/

/-- The three flag bits as a number. -/
theorem ofBool_append_eq_ofNat (kind : FlightKind) (first last : Bool) :
    BitVec.ofBool (kind == .hold) ++ BitVec.ofBool last ++ BitVec.ofBool first =
      BitVec.ofNat 3 ((if first then 1 else 0) + (if last then 2 else 0) + if kind = .hold then 4 else 0) := by
  cases kind <;> cases first <;> cases last <;> rfl

theorem outFlags_eq (kind : FlightKind) (p w : Nat) : outFlags kind p w =
    BitVec.ofNat 3 ((if p = 0 then 1 else 0) + (if p + 1 = w then 2 else 0) + if kind = .hold then 4 else 0) := by
  rw [outFlags, ofBool_append_eq_ofNat]
  simp only [beq_iff_eq]

theorem outHeader_eq (d : Dest) (kind : FlightKind) (p w : Nat) : outHeader d kind p w =
    packHeader 1 (match d with | .station a => BitVec.ofNat 5 (a.val + 1) | .broadcast => 31) 0
      (BitVec.ofNat 3 ((if p = 0 then 1 else 0) + (if p + 1 = w then 2 else 0) + if kind = .hold then 4 else 0)) := by
  rw [outHeader, outFlags_eq]
  cases d <;> rfl

/-- The cell at the position of the unit in flight is put on the line (R59). -/
theorem State.sendOut_of_flight {fl : Flight} (h : s.circuit id = some c) (hf : c.run.flight = some fl) (p : Nat) (d : Dest) :
    s.sendOut id p d = (s.withPort (s.port.drive
      (cellBytes (outHeader d fl.kind p c.defn.slots.length) (fl.cells.getD p Buf.zero))), .sendCircuit id p) := by
  simp only [State.sendOut, h, hf, CircuitDef.width]

/-- Where no unit is in flight no cell is sent (R60). -/
theorem State.sendOut_none (h : s.circuit id = some c) (hf : c.run.flight = none) (p : Nat) (d : Dest) :
    s.sendOut id p d = (s, .quiet) := by
  simp only [State.sendOut, h, hf]

/-- The head unit of the queue goes in flight with its buffers (R58). -/
theorem State.beginOut_data {u : List Buf} {rest : List (List Buf)} (h : s.circuit id = some c) (hf : c.run.flight = none)
    (hq : c.run.queue = u :: rest) : s.beginOut id c =
    s.setCircuit id { c with run := { c.run with queue := rest, flight := some ⟨.data, u, 0⟩ } } := by
  rw [State.beginOut, hq]
  refine State.rehold_of_held_eq h ?_
  simp [CircuitRun.held, CircuitRun.queueHeld, Flight.held, hf, hq]
  omega

/-- A HOLD unit goes in flight with the last-sent copy, and the underrun is counted and reported (R58, R67). -/
theorem State.beginOut_hold (h : s.circuit id = some c) (hf : c.run.flight = none) (hq : c.run.queue = []) :
    s.beginOut id c = (s.setCircuit id { c with run := { c.run with
        flight := some ⟨.hold, c.run.lastSent.getD (List.replicate c.defn.slots.length Buf.zero), 0⟩
        counters.underruns := satInc c.run.counters.underruns
        lossReported := true } }).withDelivery
      (if c.run.lossReported = true then s.delivery
        else s.delivery.offerEvent (.loss id .underrun s.port.frameNo)) := by
  have cells : c.holdCells = c.run.lastSent.getD (List.replicate c.defn.slots.length Buf.zero) := by
    unfold LiveCircuit.holdCells
    cases c.run.lastSent <;> rfl
  rw [State.beginOut, hq]
  simp only [cells]
  rw [State.rehold_of_held_eq h (by simp [CircuitRun.held, CircuitRun.queueHeld, Flight.held, hf, hq]),
    State.raiseLoss_setCircuit h]

/-! ### The assembly of an IN unit (R62) -/

/-- With room in the pool the assembly claims a buffer for each position. -/
theorem State.beginIn_claims (h : s.circuit id = some c) (ha : c.run.assembly = none)
    (room : c.defn.slots.length ≤ s.delivery.free) : s.beginIn id c =
    (s.setCircuit id { c with run := { c.run with assembly := some ⟨some (List.replicate c.defn.slots.length Buf.zero),
        List.replicate c.defn.slots.length .pending⟩ } }).withDelivery
      { s.delivery with free := s.delivery.free - c.defn.slots.length } := by
  have claim : s.delivery.inboundClaim c.defn.width = true := decide_eq_true room
  rw [State.beginIn, if_pos claim, State.rehold_of_circuit h]
  have held : ∀ status, CircuitRun.held { c.run with
      assembly := some (Assembly.mk (some (List.replicate c.defn.width Buf.zero)) status) } =
      c.run.held + c.defn.slots.length := by
    intro status
    simp [CircuitRun.held, CircuitRun.queueHeld, Assembly.held, ha, CircuitDef.width]
  simp only [held, Nat.add_comm s.delivery.free, Nat.add_sub_add_left]
  rfl

/-- Without room the unit is dropped as it begins, which is counted and reported (R62, R67). -/
theorem State.beginIn_drops (h : s.circuit id = some c) (ha : c.run.assembly = none)
    (noRoom : s.delivery.free < c.defn.slots.length) : s.beginIn id c =
    (s.setCircuit id { c with run := { c.run with
        assembly := some ⟨none, List.replicate c.defn.slots.length .pending⟩
        counters.dropped := satInc c.run.counters.dropped
        lossReported := true } }).withDelivery
      (if c.run.lossReported = true then s.delivery
        else s.delivery.offerEvent (.loss id .noBuffer s.port.frameNo)) := by
  have claim : ¬ s.delivery.inboundClaim c.defn.width = true := fun hc =>
    Nat.not_le.mpr noRoom (of_decide_eq_true hc)
  rw [State.beginIn, if_neg claim, State.rehold_of_held_eq h
    (by simp [CircuitRun.held, CircuitRun.queueHeld, Assembly.held, CircuitRun.dropIf, ha]), State.raiseLoss_setCircuit h]
  rfl

/-- Settles O55: the owner of each slot decides by the schedule, the run state and the position. -/
theorem slotOpensOnCircuit : Obligations.SlotOpensOnCircuit := by
  intro k s hopen
  refine ⟨?noSchedule, fun l hl => ⟨?unused, ?circuit⟩⟩
  case noSchedule =>
    intro hl
    exact hopen.exec_of_no_cell (by simp [State.openUse, State.slotUse, hl])
  case unused =>
    intro hno hnone
    have use : (s.withPort s.port.release).slotUse k = .unused := by
      simp only [State.slotUse, State.withPort_sched, hl]
      exact LiveSchedule.use_unused hno hnone
    exact hopen.exec_of_no_cell (by rw [State.openUse, use])
  case circuit =>
    intro id c p hgives
    obtain ⟨use, hc⟩ := State.openUse_of_gives (s := s.withPort s.port.release) hl hgives
    refine ⟨?out, ?inn⟩
    case out =>
      intro d n hends
      have out : (s.withPort s.port.release).openUse k = (s.withPort s.port.release).openOut id c d p := by
        rw [use, State.openCircuit, hc]
        simp only [hends]
      refine ⟨?quiet, ?begins, ?noUnit, ?goesOn⟩
      case quiet =>
        intro hp hwhy
        refine hopen.exec_of_no_cell ?_
        have : ¬ (s.port.trunk = .running ∧ c.run.runState = .running) := by
          rintro ⟨ht, hr⟩
          rw [ht, hr] at hwhy
          simp at hwhy
        rw [out, State.openOut, if_pos hp, if_neg (by exact this)]
      case begins =>
        rintro rfl ht hrun hflight
        have begins : (s.withPort s.port.release).openUse k =
            ((s.withPort s.port.release).beginOut id c).sendOut id 0 d := by
          rw [out, State.openOut, if_pos rfl, if_pos ⟨ht, hrun⟩]
        refine ⟨fun u rest hq => ?data, fun hq => ?hold⟩
        case data =>
          rw [State.beginOut_data hc hflight hq,
            State.sendOut_of_flight (State.circuit_setCircuit_self hc _) rfl, outHeader_eq, State.setCircuit_withPort] at begins
          exact hopen.exec_of_sent (State.setCircuit_port _ _ _) begins
        case hold =>
          have sent := State.sendOut_of_flight (s := (s.withPort s.port.release).beginOut id c) (id := id)
            (c := { c with run := { c.run with
              flight := some ⟨.hold, c.run.lastSent.getD (List.replicate c.defn.slots.length Buf.zero), 0⟩
              counters.underruns := satInc c.run.counters.underruns
              lossReported := true } })
            (by rw [State.beginOut_hold hc hflight hq]; exact State.circuit_setCircuit_self hc _) rfl 0 d
          rw [sent, State.beginOut_hold hc hflight hq, outHeader_eq, State.setCircuit_withPort] at begins
          exact hopen.exec_of_sent (State.setCircuit_port _ _ _) begins
      case noUnit =>
        intro hp hflight
        refine hopen.exec_of_no_cell ?_
        rw [out, State.openOut, if_neg (by omega), State.sendOut_none hc hflight]
      case goesOn =>
        intro hp fl hflight
        rw [State.openOut, if_neg (by omega), State.sendOut_of_flight hc hflight, outHeader_eq] at out
        exact hopen.exec_of_sent rfl out
    case inn =>
      intro a filter hends
      have inn : (s.withPort s.port.release).openUse k = (s.withPort s.port.release).openIn id c a p := by
        rw [use, State.openCircuit, hc]
        simp only [hends]
      refine ⟨?quiet, ?listens, ?begins⟩
      case quiet =>
        intro ht
        have : ¬ (s.withPort s.port.release).port.trunk = .running := by simp [Port.release, ht]
        exact hopen.exec_of_no_cell (by rw [inn, State.openIn, if_neg this])
      case listens =>
        intro ht hwhy
        have idle : ¬ (p = 0 ∧ c.run.runState = .running) := by
          rintro ⟨hp, hr⟩
          rcases hwhy with h | h
          · omega
          · rw [hr] at h; cases h
        exact hopen.exec_of_no_cell (by rw [inn, State.openIn, if_pos (by exact ht), if_neg idle])
      case begins =>
        rintro ht rfl hrun hasm
        have begins : (s.withPort s.port.release).openUse k =
            ((s.withPort s.port.release).beginIn id c, .listenCircuit id 0 a) := by
          rw [inn, State.openIn, if_pos (by exact ht), if_pos ⟨rfl, hrun⟩]
        refine ⟨fun room => ?claims, fun noRoom => ?drops⟩
        case claims =>
          rw [State.beginIn_claims hc hasm room, State.setCircuit_withPort] at begins
          exact hopen.exec_of_sent (State.setCircuit_port _ _ _) begins
        case drops =>
          rw [State.beginIn_drops hc hasm noRoom, State.setCircuit_withPort] at begins
          exact hopen.exec_of_sent (State.setCircuit_port _ _ _) begins

end Machine
end Sys2Proof
end

section
/-! A slot that closes: the judgement handed to its owner, and the answers to REQUEST cells (R15 to R18, R104, R105, R108,
R113, R126 to R131). -/

namespace Sys2Proof.Machine

variable {s : State} {k : Nat} {mode : SlotMode} {line : SlotLine}

/-! ### The closing slot (R15 to R18) -/

/-- The line is released, and the owner takes what the slot brought. -/
theorem State.HasOpen.exec_eq (h : s.HasOpen k mode) :
    exec (.slotClose line) s = .next ((s.closed k).closeMode mode line) := by
  obtain ⟨hopen, hrun, hpos⟩ := h
  have now : s.openNow = some (k, mode) := by simp [State.openNow, hrun, hpos]
  rw [exec_slotClose, onEvent_acts hopen (by rw [now]; rfl), State.closeNow, now]
  rfl

/-- The state in which the owner of a pair's REPLY slot takes the judgement: the port has counted it and forgotten the
pair. -/
def State.judged (k : Nat) (j : Judgement) (countsSilence : Bool) (s : State) : State :=
  { s.closed k with
    port.pair := none
    port.badCells := if j = .bad then satInc s.port.badCells else s.port.badCells
    port.silentSlots := if j = .silent ∧ countsSilence = true then satInc s.port.silentSlots else s.port.silentSlots }

theorem State.judged_eq (s : State) (k : Nat) (j : Judgement) (countsSilence : Bool) : s.judged k j countsSilence =
    (s.closed k).withPort { (s.closed k).port.countJudgement j countsSilence with pair := none } := by
  cases j with
  | good p => simp [State.judged, Port.countJudgement]; rfl
  | bad => simp [State.judged, Port.countJudgement]; rfl
  | silent => cases countsSilence <;> simp [State.judged, Port.countJudgement, satIncIf] <;> rfl

/-- A REPLY slot after a cell that expects an answer: the judgement goes to the requester (R17, R96). -/
theorem State.HasOpen.exec_reply (h : s.HasOpen k .listenReply) {p : Pair} (hp : s.port.pair = some p) :
    exec (.slotClose line) s =
      .next ((s.judged k (p.judge line) p.user.countsSilence).pairAnswered p (p.judge line)) := by
  have pair : (s.closed k).port.pair = some p := hp
  rw [h.exec_eq, State.closeMode, pair, State.judged_eq]

/-! ### The host queue around one record (R97, R158) -/

section
variable {before after queue : List HostRecord} {r : HostRecord}

theorem HostRecord.tag_ne_of_nodup (h : ((before ++ r :: after).map HostRecord.tag).Nodup) :
    ∀ q ∈ before ++ after, q.tag ≠ r.tag := by
  intro q hq ht
  rw [List.map_append, List.map_cons] at h
  obtain ⟨hr, -⟩ := List.nodup_cons.mp (List.nodup_middle.mp h)
  rw [← List.map_append] at hr
  exact hr (ht ▸ List.mem_map_of_mem hq)

theorem HostRecord.eraseP_middle (h : ((before ++ r :: after).map HostRecord.tag).Nodup) :
    (before ++ r :: after).eraseP (fun x => x.tag == r.tag) = before ++ after := by
  have hb : ∀ q ∈ before, ¬ (q.tag == r.tag) = true := fun q hq => by
    simpa using HostRecord.tag_ne_of_nodup h q (List.mem_append_left _ hq)
  rw [List.eraseP_append_right _ hb, List.eraseP_cons_of_pos (by simp)]

theorem HostRecord.map_middle (h : ((before ++ r :: after).map HostRecord.tag).Nodup) (f : HostRecord → HostRecord) :
    ((before ++ r :: after).map fun x => if x.tag = r.tag then f x else x) = before ++ f r :: after := by
  have kept : ∀ part : List HostRecord, (∀ q ∈ part, q.tag ≠ r.tag) →
      (part.map fun x => if x.tag = r.tag then f x else x) = part := by
    intro part hpart
    refine (List.map_congr_left fun q hq => ?_).trans (List.map_id _)
    rw [if_neg (hpart q hq)]
    rfl
  have hne := HostRecord.tag_ne_of_nodup h
  rw [List.map_append, List.map_cons, kept before fun q hq => hne q (List.mem_append_left _ hq),
    kept after fun q hq => hne q (List.mem_append_right _ hq), if_pos rfl]

/-- A record of the queue completes: the records around it stay (R108). -/
theorem State.completeHost_middle (hq : s.engine.queue = before ++ r :: after)
    (h : (s.engine.queue.map HostRecord.tag).Nodup) (o : TxnOutcome) (reason : Byte) (data : List Byte) :
    s.completeHost r o reason data = { s with
      engine.queue := before ++ after
      roster := if r.attempt.wasIssued = true then (s.setEntry r.request.station
          { s.entry r.request.station with marker := none }).roster else s.roster
      delivery.hostRes := s.delivery.hostRes - 1
      delivery.records := s.delivery.records ++ [.done r.tag o reason data]
      link.tags := s.link.tags.erase r.tag } := by
  have erased : s.engine.queue.eraseP (fun x => x.tag == r.tag) = before ++ after := by
    rw [hq] at h ⊢
    exact HostRecord.eraseP_middle h
  rw [← erased]
  unfold State.completeHost
  cases r.attempt.wasIssued <;> rfl

/-- A record of the queue takes a new attempt: the records around it stay (R103 to R105). -/
theorem State.setAttempt_middle (hq : s.engine.queue = before ++ r :: after)
    (h : (s.engine.queue.map HostRecord.tag).Nodup) (x : Attempt) :
    s.setAttempt r.tag x = { s with engine.queue := before ++ { r with attempt := x } :: after } := by
  rw [hq] at h
  rw [State.setAttempt, hq, HostRecord.map_middle h fun q => { q with attempt := x }]
  rfl

/-- The ISSUED record with the pair's tag, where it is in the queue (R104). -/
theorem HostRecord.find?_issued (h : ((before ++ r :: after).map HostRecord.tag).Nodup)
    (hi : r.attempt.state = .issued) :
    (before ++ r :: after).find? (fun x => x.tag == r.tag && x.attempt.state == .issued) = some r := by
  rw [List.find?_append, List.find?_eq_none.mpr, Option.none_or, List.find?_cons_of_pos (by simp [hi])]
  intro q hq
  simp [HostRecord.tag_ne_of_nodup h q (List.mem_append_left _ hq)]

end

/-! ### What an answer does to a transaction (R104, R105) -/

/-- The judgement is a failed attempt: no GOOD answer, or a malformed one (R104, R105). -/
def Judgement.Failed (j : Judgement) : Prop :=
  j = .bad ∨ j = .silent ∨ ∃ p, j = .good p ∧ (2 < p.b0.toNat ∨ 4 < p.b2.toNat)

section
variable {p : Buf} (limit : Nat) (f : FrameNo) (x : Attempt)

theorem Attempt.answered_failed {j : Judgement} (h : j.Failed) : x.answered limit f j = x.fail limit f := by
  rcases h with rfl | rfl | ⟨p, rfl, hp⟩
  · rfl
  · rfl
  · simp only [Attempt.answered, if_pos hp]

theorem Attempt.answered_done (hl : p.b2.toNat ≤ 4) (h : p.b0 = 0) :
    x.answered limit f (.good p) = .done (answerData p) := by
  have legal : ¬ (2 < p.b0.toNat ∨ 4 < p.b2.toNat) := by rw [h]; simp; omega
  simp only [Attempt.answered, if_neg legal, if_pos h]

theorem Attempt.answered_deferred (hl : p.b2.toNat ≤ 4) (h : p.b0 = 1) :
    x.answered limit f (.good p) = .waits ({ x with deferred := true }.waitFrom f) := by
  have legal : ¬ (2 < p.b0.toNat ∨ 4 < p.b2.toNat) := by rw [h]; simp; omega
  have h0 : ¬ p.b0 = 0 := by rw [h]; decide
  have h2 : ¬ p.b0 = 2 := by rw [h]; decide
  simp only [Attempt.answered, if_neg legal, if_neg h0, if_neg h2]

theorem Attempt.answered_rejected (hl : p.b2.toNat ≤ 4) (h : p.b0 = 2) :
    x.answered limit f (.good p) = .rejected p.b1 := by
  have legal : ¬ (2 < p.b0.toNat ∨ 4 < p.b2.toNat) := by rw [h]; simp; omega
  have h0 : ¬ p.b0 = 0 := by rw [h]; decide
  simp only [Attempt.answered, if_neg legal, if_neg h0, if_pos h]

theorem Attempt.fail_waits (h : x.failures + 1 ≤ limit) :
    x.fail limit f = .waits ({ x with failures := x.failures + 1 }.waitFrom f) := if_neg (Nat.not_lt.mpr h)

theorem Attempt.fail_noAnswer (h : limit < x.failures + 1) : x.fail limit f = .noAnswer := if_pos h

end

/-! ### The requesters of a pair (R17, R96) -/

/-- The report that follows a judgement, in the words of R74 and R75. -/
theorem State.report_eq (s : State) (a : StAddr) (j : Judgement) :
    s.report a j = if j = .bad ∨ j = .silent then s.missed a else s.heard a := by
  cases j <;> simp [State.report]

/-- A stray answer is counted where it is GOOD (R113). -/
theorem State.countStray_eq (s : State) (j : Judgement) : s.countStray j = { s with
    engine.strays := if j = .bad ∨ j = .silent then s.engine.strays else satInc s.engine.strays } := by
  cases j with
  | good p => simp [State.countStray]; rfl
  | bad => simp [State.countStray]
  | silent => simp [State.countStray]

theorem State.hostAnswered_stray {tag : Byte} (h : ∀ r ∈ s.engine.queue, r.tag = tag → r.attempt.state ≠ .issued)
    (a : StAddr) (j : Judgement) : s.hostAnswered tag a j = s.countStray j := by
  have none : s.engine.queue.find? (fun r => r.tag == tag && r.attempt.state == .issued) = none := by
    rw [List.find?_eq_none]
    intro r hr
    by_cases ht : r.tag = tag
    · simp [h r hr ht]
    · simp [ht]
  rw [State.hostAnswered, none]

/-- The effect of the answer on the record, then the report (R104, R105). -/
theorem State.hostAnswered_issued {before after : List HostRecord} {r : HostRecord}
    (hq : s.engine.queue = before ++ r :: after) (h : (s.engine.queue.map HostRecord.tag).Nodup)
    (hi : r.attempt.state = .issued) (a : StAddr) (j : Judgement) : s.hostAnswered r.tag a j =
      (match r.attempt.answered s.cfg.retryLimit s.port.frameNo j with
        | .done data => s.completeHost r .done 0 data
        | .rejected reason => s.completeHost r .rejected reason []
        | .noAnswer => s.completeHost r .noAnswer 0 []
        | .waits x => s.setAttempt r.tag x).report a j := by
  have found : s.engine.queue.find? (fun x => x.tag == r.tag && x.attempt.state == .issued) = some r := by
    rw [hq] at h ⊢
    exact HostRecord.find?_issued h hi
  rw [State.hostAnswered, found]
  rfl

theorem State.notedItem_none {pass index : Nat} (h : ∀ l r c, s.batch.state = .running l r → r.current = some c →
    ¬ (r.pass = pass ∧ c.index = index ∧ c.attempt.state = .issued)) : s.notedItem pass index = none := by
  unfold State.notedItem
  cases hb : s.batch.state with
  | empty => rfl
  | loaded l => rfl
  | running l r =>
    cases hc : r.current with
    | none => simp only [hc]
    | some c => simp only [hc, if_neg (h l r c hb hc)]

theorem State.notedItem_some {l : BatchList} {r : BatchRun} {c : CurrentItem} (hb : s.batch.state = .running l r)
    (hc : r.current = some c) (hi : c.attempt.state = .issued) : s.notedItem r.pass c.index = some (l, r, c) := by
  simp only [State.notedItem, hb, hc, hi, and_self, if_true]

/-- Settles O59: the judgement acts on the transaction that is still ISSUED, and the report follows. -/
theorem slotClosesOnAnswer : Obligations.SlotClosesOnAnswer := by
  intro k line a tok s hopen j base stray told failed data waits
  have counted : s.judged k j true = base := by simp [State.judged, base]
  have strayed : base.countStray j = stray := base.countStray_eq j
  have reported : ∀ u : State, u.report a j = told u := fun u => u.report_eq a j
  refine ⟨fun tag hpair => ?host, fun pass index hpair => ?batch⟩
  case host =>
    have answered : exec (.slotClose line) s = .next (base.hostAnswered tag a j) := by
      rw [← counted]
      exact hopen.exec_reply hpair
    refine ⟨fun hgone => ?strayHost, fun hnodup before r after hq htag hi => ?issuedHost⟩
    case strayHost => rw [answered, State.hostAnswered_stray (s := base) hgone, strayed]
    case issuedHost =>
      subst htag
      intro put complete
      have hqb : base.engine.queue = before ++ r :: after := hq
      have effect := State.hostAnswered_issued hqb hnodup hi a j
      have completes : ∀ o reason bytes, base.completeHost r o reason bytes = complete o reason bytes := by
        intro o reason bytes
        have issued : r.attempt.wasIssued = true := by simp [Attempt.wasIssued, hi]
        rw [State.completeHost_middle hqb hnodup, if_pos issued]
        rfl
      have puts : ∀ x, base.setAttempt r.tag x = put x := State.setAttempt_middle hqb hnodup
      rw [answered, effect]
      refine ⟨fun p hj hlen => ⟨fun h => ?_, fun h => ?_, fun h => ?_⟩, fun hf hlim => ?_, fun hf hlim => ?_⟩
      · rw [hj, Attempt.answered_done _ _ _ hlen h, ← hj, reported]
        simp only [completes]
        rfl
      · rw [hj, Attempt.answered_deferred _ _ _ hlen h, ← hj, reported]
        simp only [puts]
        rfl
      · rw [hj, Attempt.answered_rejected _ _ _ hlen h, ← hj, reported]
        simp only [completes]
      · rw [Attempt.answered_failed _ _ _ hf, Attempt.fail_waits base.cfg.retryLimit _ _ hlim, reported]
        simp only [puts]
        rfl
      · rw [Attempt.answered_failed _ _ _ hf, Attempt.fail_noAnswer base.cfg.retryLimit _ _ hlim, reported]
        simp only [completes]
  case batch =>
    have answered : exec (.slotClose line) s = .next (base.batchAnswered pass index a j) := by
      rw [← counted]
      exact hopen.exec_reply hpair
    refine ⟨fun hgone => ?strayItem, fun l r c hb hc hpass hindex hi => ?issuedItem⟩
    case strayItem => rw [answered, State.batchAnswered, State.notedItem_none (s := base) hgone, strayed]
    case issuedItem =>
      subst hpass hindex
      intro put
      have noted : base.notedItem r.pass c.index = some (l, r, c) := State.notedItem_some hb hc hi
      rw [answered, State.batchAnswered, noted]
      simp only [State.answerItem]
      refine ⟨fun p hj hlen => ⟨fun h => ?_, fun h => ?_, fun h => ?_⟩, fun hf hlim => ?_, fun hf hlim => ?_⟩
      · rw [hj, Attempt.answered_done _ _ _ hlen h, ← hj, reported]
        rfl
      · rw [hj, Attempt.answered_deferred _ _ _ hlen h, ← hj, reported]
        rfl
      · rw [hj, Attempt.answered_rejected _ _ _ hlen h, ← hj, reported]
      · rw [Attempt.answered_failed _ _ _ hf, Attempt.fail_waits base.cfg.retryLimit _ _ hlim, reported]
        rfl
      · rw [Attempt.answered_failed _ _ _ hf, Attempt.fail_noAnswer base.cfg.retryLimit _ _ hlim, reported]

end Sys2Proof.Machine
end

section
/-! A slot that closes on the port's own cell, on nothing, or on a circuit's DATA (R15, R16, R18, R61, R63 to R67). -/

namespace Sys2Proof.Machine

variable {s : State} {k : Nat} {mode : SlotMode} {line : SlotLine} {id : CircuitId} {c c₀ : LiveCircuit}

/-! ### Judgements (R16) -/

theorem judge_silent_iff (kind : BitVec 4) (a : StAddr) (token : Option Token) :
    judge line kind a token = .silent ↔ line = .silent := by
  cases line with
  | silent => simp [judge]
  | cell c later =>
    simp only [judge]
    split <;> simp

theorem judge_good_iff (kind : BitVec 4) (a : StAddr) (token : Option Token) (payload : Buf) :
    judge line kind a token = .good payload ↔ ∃ header check later, line = .cell ⟨header, payload, check, true⟩ later ∧
      check = crc16 (halfBytes header ++ payload.bytes) ∧ headerKind header = kind ∧ headerAddr header = addrField a ∧
      ∀ t, token = some t → headerToken header = t := by
  cases line with
  | silent => simp [judge]
  | cell c later =>
    obtain ⟨header, stored, check, ended⟩ := c
    have tokens : (token = none ∨ token = some (headerToken header)) ↔ ∀ t, token = some t → headerToken header = t := by
      cases token with
      | none => simp
      | some t =>
        have : t = headerToken header ↔ headerToken header = t := eq_comm
        simpa using this
    simp only [judge]
    constructor
    · intro h
      split at h
      · next hc =>
        obtain ⟨hended, hcheck, hkind, haddr, htok⟩ := hc
        obtain rfl : stored = payload := Judgement.good.inj h
        obtain rfl : ended = true := hended
        exact ⟨header, check, later, rfl, hcheck, hkind, haddr, tokens.mp htok⟩
      · cases h
    · rintro ⟨header', check', later', hline, hcheck, hkind, haddr, htok⟩
      obtain ⟨⟨⟩, ⟨⟩⟩ := hline
      exact if_pos ⟨rfl, hcheck, hkind, haddr, tokens.mpr htok⟩

/-! ### Moments on the trunk lines (R15, R18) -/

theorem State.meet_trxCell (hh : s.held = false) : s.meet .trxCell = s.cellBegins := by simp [State.meet, hh]

theorem State.meet_ttxEnd (hh : s.held = false) : s.meet .ttxEnd = s.withPort s.port.release := by simp [State.meet, hh]

/-- A cell that begins is counted in a quiet slot (R18, R21). -/
theorem State.cellBegins_quiet (hr : s.port.trunk.framesRun = true) (hpos : s.port.pos = .slotOpen k .quiet) :
    s.cellBegins = { s with port.badCells := satInc s.port.badCells } := by
  simp only [State.cellBegins, State.openNow, hr, if_true, hpos]
  rfl

theorem State.cellBegins_else (h : s.port.trunk.framesRun = false ∨ ∀ k, s.port.pos ≠ .slotOpen k .quiet) :
    s.cellBegins = s := by
  unfold State.cellBegins
  split
  · next k hnow =>
    unfold State.openNow at hnow
    split at hnow
    · next hr =>
      cases hpos : s.port.pos with
      | slotOpen j m =>
        rw [hpos] at hnow
        obtain ⟨rfl, rfl⟩ : j = k ∧ m = .quiet := by simpa using hnow
        rcases h with h | h
        · rw [h] at hr; cases hr
        · exact absurd hpos (h j)
      | idle => simp [hpos] at hnow
      | marker b => simp [hpos] at hnow
      | slotClosed j => simp [hpos] at hnow
    · cases hnow
  all_goals rfl

/-! ### Buffers that a circuit gives back (R136) -/

/-- A circuit that holds `n` buffers fewer returns them to the pool. -/
theorem State.rehold_of_returned {n : Nat} (h : s.circuit id = some c₀) (hn : c₀.run.held = c.run.held + n) :
    s.rehold id c = (s.setCircuit id c).withDelivery { s.delivery with free := s.delivery.free + n } := by
  rw [State.rehold_of_circuit h, hn, ← Nat.add_assoc, Nat.add_right_comm, Nat.add_sub_cancel]

/-! ### A slot of an OUT unit (R61) -/

section
variable {f : Flight} {p : Nat} (h : s.circuit id = some c) (hf : c.run.flight = some f)
include h hf

theorem State.closeOut_goesOn (hp : p + 1 ≠ c.defn.slots.length) : s.closeOut id p =
    s.setCircuit id { c with run := { c.run with flight := some { f with sent := p + 1 } } } := by
  simp only [State.closeOut, h, hf]
  exact if_neg hp

theorem State.closeOut_data (hp : p + 1 = c.defn.slots.length) (hk : f.kind = .data) : s.closeOut id p =
    (s.setCircuit id { c with run := { c.run with
        flight := none
        lastSent := some f.cells
        counters.sent := satInc c.run.counters.sent } }).withDelivery
      { s.delivery with free := s.delivery.free + f.cells.length } := by
  have last : p + 1 = c.defn.width := hp
  simp only [State.closeOut, h, hf, if_pos last, hk]
  refine State.rehold_of_returned h ?_
  simp [CircuitRun.held, CircuitRun.queueHeld, Flight.held, hf, hk]
  omega

theorem State.closeOut_hold (hp : p + 1 = c.defn.slots.length) (hk : f.kind = .hold) : s.closeOut id p =
    s.setCircuit id { c with run := { c.run with
      flight := none, counters.holds := satInc c.run.counters.holds } } := by
  have last : p + 1 = c.defn.width := hp
  simp only [State.closeOut, h, hf, if_pos last, hk]
  refine State.rehold_of_held_eq h ?_
  simp [CircuitRun.held, CircuitRun.queueHeld, Flight.held, hf, hk]

end

theorem State.closeOut_none (h : (s.circuit id).bind (fun c => c.run.flight) = none) (p : Nat) : s.closeOut id p = s := by
  unfold State.closeOut
  cases hc : s.circuit id with
  | none => rfl
  | some c =>
    have hf : c.run.flight = none := by simpa [hc] using h
    simp only [hf]

/-! ### A slot of an IN unit (R63, R64) -/

theorem State.circuitRuns_iff : s.circuitRuns id = true ↔ (s.circuit id).map (fun c => c.run.runState) = some .running := by
  unfold State.circuitRuns
  cases s.circuit id <;> simp

/-- The state in which an IN circuit takes the judgement of its slot: the port has counted it (R16, R21). -/
def State.listened (k : Nat) (id : CircuitId) (j : Judgement) (s : State) : State :=
  { s.closed k with
    port.badCells := if j = .bad then satInc s.port.badCells else s.port.badCells
    port.silentSlots := if j = .silent ∧ (s.circuit id).map (fun c => c.run.runState) = some .running
      then satInc s.port.silentSlots else s.port.silentSlots }

theorem State.listened_eq (s : State) (k : Nat) (id : CircuitId) (j : Judgement) : s.listened k id j =
    (s.closed k).withPort ((s.closed k).port.countJudgement j ((s.closed k).circuitRuns id)) := by
  have runs : (s.closed k).circuitRuns id = s.circuitRuns id := rfl
  rw [runs, State.listened]
  simp only [← State.circuitRuns_iff]
  cases j with
  | good p => simp [Port.countJudgement]; rfl
  | bad => simp [Port.countJudgement]; rfl
  | silent => cases s.circuitRuns id <;> simp [Port.countJudgement, satIncIf] <;> rfl

theorem State.circuitHeard_none (h : (s.circuit id).bind (fun c => c.run.assembly) = none) (p : Nat) (a : StAddr)
    (j : Judgement) : s.circuitHeard id p a j = s := by
  unfold State.circuitHeard
  cases hc : s.circuit id with
  | none => rfl
  | some c =>
    have ha : c.run.assembly = none := by simpa [hc] using h
    simp only [ha]

/-- An assembly in progress stores the judgement, and at the last position the unit is complete. -/
theorem State.circuitHeard_eq {asm : Assembly} (h : s.circuit id = some c) (ha : c.run.assembly = some asm) (p : Nat)
    (a : StAddr) (j : Judgement) : s.circuitHeard id p a j =
      if p + 1 = c.defn.slots.length then
        (s.setCircuit id { c with run := { c.run with assembly := some (asm.judge p j) } }).completeUnit id a (asm.judge p j)
      else s.setCircuit id { c with run := { c.run with assembly := some (asm.judge p j) } } := by
  simp only [State.circuitHeard, h, ha, CircuitDef.width]
  rfl

theorem Assembly.judge_held (asm : Assembly) (p : Nat) (j : Judgement) :
    (asm.judge p j).held = (asm.bufs.map List.length).getD 0 := by
  simp only [Assembly.held, Assembly.judge]
  cases asm.bufs <;> simp

/-- The buffers of an assembly, where the circuit has one, and the others it holds (R134). -/
theorem CircuitRun.held_of_assembly {r : CircuitRun} {asm : Assembly} (h : r.assembly = some asm) :
    r.held = CircuitRun.held { r with assembly := none } + asm.held := by
  simp [CircuitRun.held, CircuitRun.queueHeld, h]

/-! ### Heard reports and the schedule (R74) -/

@[simp] theorem State.heard_sched (a : StAddr) (s : State) : (s.heard a).sched = s.sched := by
  simp only [State.heard]
  cases (s.entry a).state <;> rfl

@[simp] theorem State.heard_port (a : StAddr) (s : State) : (s.heard a).port = s.port := (s.heard_inner a).port

/-! ### The end of an assembly (R64 to R67) -/

section
variable {asm : Assembly} (h : s.circuit id = some c) (ha : c.run.assembly = some asm)
include h ha

/-- The assembly ends and its buffers return (R64). -/
theorem State.endAssembly_eq : s.endAssembly id =
    (s.setCircuit id { c with run := { c.run with assembly := none } }).withDelivery
      { s.delivery with free := s.delivery.free + asm.held } := by
  simp only [State.endAssembly, h]
  exact State.rehold_of_returned h (CircuitRun.held_of_assembly ha)

/-- A unit whose circuit held no buffers for it ends. -/
theorem State.finishHeardUnit_dropped (hb : asm.bufs = none) : s.finishHeardUnit id =
    s.setCircuit id { c with run := { c.run with assembly := none } } := by
  simp only [State.finishHeardUnit, h, ha, hb, State.endAssembly]
  refine State.rehold_of_held_eq h ?_
  rw [CircuitRun.held_of_assembly ha, Assembly.held, hb]
  rfl

theorem State.finishHeardUnit_decides {unit : List Buf} (hb : asm.bufs = some unit) :
    s.finishHeardUnit id = s.decideDelivery id c asm.status unit := by
  simp only [State.finishHeardUnit, h, ha, hb]

end

theorem LiveCircuit.passesFilter_iff (c : LiveCircuit) (status : List SlotStatus) (unit : List Buf) :
    c.passesFilter status unit = true ↔
      c.defn.filterOn = false ∨ (∃ x ∈ status, x ≠ .good) ∨ c.run.lastDelivered ≠ some unit := by
  simp only [LiveCircuit.passesFilter, Bool.or_eq_true, Bool.not_eq_true', List.any_eq_true, bne_iff_ne, or_assoc]
  refine or_congr_right (or_congr_right ?_)
  cases c.run.lastDelivered <;> simp

section
variable {status : List SlotStatus} {unit : List Buf} {asm : Assembly} (h : s.circuit id = some c)

/-- Below the high mark the unit is delivered with its statuses (R65, R66). -/
theorem State.decideDelivery_delivers (hp : c.passesFilter status unit = true) (hroom : s.delivery.occupancy < 96) :
    s.decideDelivery id c status unit = (s.setCircuit id { c with run := { c.run with
        assembly := none
        lastDelivered := if ∀ x ∈ status, x = .good then some unit else none
        counters.delivered := satInc c.run.counters.delivered } }).withDelivery
      { s.delivery with records := s.delivery.records ++ [.data id s.port.frameNo status unit] } := by
  have below : s.delivery.belowHighMark = true := decide_eq_true hroom
  have good : (if status.all (· == .good) = true then some unit else none) =
      if ∀ x ∈ status, x = .good then some unit else none := by
    refine if_congr ?_ rfl rfl
    simp
  rw [State.decideDelivery, if_pos hp, if_pos below, good, State.onDelivery, State.setCircuit_delivery]
  rfl

include h

/-- From the high mark on the unit is dropped and its buffers return (R66, R67). -/
theorem State.decideDelivery_drops (ha : c.run.assembly = some asm) (hb : asm.bufs = some unit)
    (hp : c.passesFilter status unit = true) (hfull : 96 ≤ s.delivery.occupancy) :
    s.decideDelivery id c status unit = (s.setCircuit id { c with run := { c.run with
        assembly := none, lossReported := true
        counters.dropped := satInc c.run.counters.dropped } }).withDelivery
      (if c.run.lossReported = true then { s.delivery with free := s.delivery.free + unit.length }
        else Delivery.offerEvent (.loss id .noRoom s.port.frameNo)
          { s.delivery with free := s.delivery.free + unit.length }) := by
  have above : ¬ s.delivery.belowHighMark = true := fun hb => Nat.not_lt.mpr hfull (of_decide_eq_true hb)
  have returned : c.run.held = CircuitRun.held { c.run.dropIf true with assembly := none } + unit.length := by
    rw [CircuitRun.held_of_assembly ha, Assembly.held, hb]
    rfl
  have pooled : (s.withDelivery { s.delivery with free := s.delivery.free + unit.length }).circuit id = some c := h
  rw [State.decideDelivery, if_pos hp, if_neg above, State.rehold_of_returned h returned,
    ← State.setCircuit_withDelivery, State.raiseLoss_setCircuit pooled, State.setCircuit_withDelivery]
  rfl

/-- A unit that the change filter stops is suppressed and its buffers return (R65). -/
theorem State.decideDelivery_suppresses (ha : c.run.assembly = some asm) (hb : asm.bufs = some unit)
    (hp : ¬ c.passesFilter status unit = true) :
    s.decideDelivery id c status unit = (s.setCircuit id { c with run := { c.run with
        assembly := none, counters.suppressed := satInc c.run.counters.suppressed } }).withDelivery
      { s.delivery with free := s.delivery.free + unit.length } := by
  rw [State.decideDelivery, if_neg hp]
  refine State.rehold_of_returned h ?_
  rw [CircuitRun.held_of_assembly ha, Assembly.held, hb]
  rfl

end

/-- Settles O57: the owner of each slot takes the judgement by its mode. -/
theorem slotClosesOnCircuit : Obligations.SlotClosesOnCircuit := by
  refine ⟨fun line kind a token payload => ⟨judge_silent_iff kind a token, judge_good_iff kind a token payload⟩,
    fun s rest hh hp => ⟨fun hm => ?ttx, fun hm => ⟨fun k hr hpos => ?counted, fun hwhy => ?uncounted⟩⟩,
    fun k line s => ⟨fun hopen => ?pair, fun hopen => ?quiet, fun id p => ⟨fun hopen => ?out, fun a hopen => ?inn⟩⟩⟩
  case ttx => rw [step_moment hp hm, State.meet_ttxEnd (s := s.withMoments rest) hh]; rfl
  case counted =>
    rw [step_moment hp hm, State.meet_trxCell (s := s.withMoments rest) hh,
      State.cellBegins_quiet (s := s.withMoments rest) hr hpos]
    rfl
  case uncounted =>
    rw [step_moment hp hm, State.meet_trxCell (s := s.withMoments rest) hh,
      State.cellBegins_else (s := s.withMoments rest) hwhy]
    rfl
  case pair => exact hopen.exec_eq
  case quiet =>
    rw [hopen.exec_eq]
    cases line <;> rfl
  case out =>
    have closes : exec (.slotClose line) s = .next ((s.closed k).closeOut id p) := hopen.exec_eq
    rw [closes]
    refine ⟨fun hnone => ?_, fun c f hc hf => ⟨fun hpos => ?_, fun hpos hk => ?_, fun hpos hk => ?_⟩⟩
    · rw [State.closeOut_none (s := s.closed k) hnone]
    · rw [State.closeOut_goesOn (s := s.closed k) hc hf hpos]
    · rw [State.closeOut_data (s := s.closed k) hc hf hpos hk]; rfl
    · rw [State.closeOut_hold (s := s.closed k) hc hf hpos hk]
  case inn =>
    intro j base
    have closes : exec (.slotClose line) s = .next (base.circuitHeard id p a j) := by
      rw [hopen.exec_eq, show base = s.listened k id j from rfl, State.listened_eq]
      rfl
    rw [closes]
    refine ⟨fun hnone => ?noAssembly, fun c asm hc ha => ?assembly⟩
    case noAssembly => rw [State.circuitHeard_none (s := base) hnone]
    case assembly =>
      intro status bufs run held heard
      have hc' : base.circuit id = some c := hc
      have stored : (run base { c.run with assembly := some ⟨bufs, status⟩ }).circuit id =
          some { c with run := { c.run with assembly := some ⟨bufs, status⟩ } } := State.circuit_setCircuit_self hc' _
      have taken := State.circuitHeard_eq hc' ha p a j
      refine ⟨fun hpos => ?goesOn, fun hpos hmiss => ?miss, fun hpos hgood => ?good⟩
      case goesOn => rw [taken, if_neg hpos]; rfl
      case miss =>
        have any : ¬ (asm.judge p j).status.any (· == .good) = true := by
          rw [List.any_eq_true]
          rintro ⟨x, hx, hg⟩
          exact hmiss x hx (eq_of_beq hg)
        rw [taken, if_pos hpos, State.completeUnit, if_neg any, State.endAssembly_eq (State.circuit_setCircuit_self hc' _) rfl,
          State.setCircuit_setCircuit, Assembly.judge_held, State.setCircuit_delivery]
        rfl
      case good =>
        have any : (asm.judge p j).status.any (· == .good) = true := by
          rw [List.any_eq_true]
          obtain ⟨x, hx, rfl⟩ := hgood
          exact ⟨.good, hx, rfl⟩
        have completes : base.circuitHeard id p a j = heard.finishHeardUnit id := by
          rw [taken, if_pos hpos, State.completeUnit, if_pos any]
          rfl
        have hcirc : heard.circuit id = some { c with run := { c.run with assembly := some ⟨bufs, status⟩ } } := by
          rw [← stored]
          exact State.circuit_congr (State.heard_sched _ _) id
        have frame : heard.port.frameNo = s.port.frameNo := by
          rw [show heard.port = _ from State.heard_port _ _, State.setCircuit_port]
          rfl
        have decides : ∀ unit, bufs = some unit → heard.finishHeardUnit id =
            heard.decideDelivery id { c with run := { c.run with assembly := some ⟨bufs, status⟩ } } status unit :=
          fun unit hb => State.finishHeardUnit_decides hcirc rfl hb
        have filter : ∀ unit, LiveCircuit.passesFilter { c with run := { c.run with assembly := some ⟨bufs, status⟩ } }
            status unit = true ↔ _ := fun unit => LiveCircuit.passesFilter_iff _ status unit
        refine ⟨fun hb => ?dropped, fun unit hb => ⟨fun hp hroom => ?delivered, fun hp hfull => ?full, fun hp => ?suppressed⟩⟩
        case dropped =>
          rw [completes, State.finishHeardUnit_dropped hcirc rfl hb]
        case delivered =>
          rw [completes, decides unit hb, State.decideDelivery_delivers ((filter unit).mpr hp) hroom, frame]
          rfl
        case full =>
          rw [completes, decides unit hb, State.decideDelivery_drops hcirc rfl hb ((filter unit).mpr hp) hfull, frame]
          rfl
        case suppressed =>
          rw [completes, decides unit hb,
            State.decideDelivery_suppresses hcirc rfl hb fun h => hp ((filter unit).mp h)]
          rfl

end Sys2Proof.Machine
end

section
/-! A slot that opens on an open pair: the roster's bids, the examination of the requesters by the turn marker, and the cells
they send (R77 to R80, R95, R96, R100, R102, R103, R124, R126). -/

namespace Sys2Proof.Machine

variable {s : State} {k : Nat}

/-! ### The roster's picks (R77 to R79) -/

theorem StationEntry.rollCandidate_iff (e : StationEntry) : e.rollCandidate = true ↔ RollDue e := by
  simp [StationEntry.rollCandidate, RollDue]

theorem StationEntry.presenceCandidate_iff (e : StationEntry) : e.presenceCandidate = true ↔ PresenceDue e := by
  simp [StationEntry.presenceCandidate, PresenceDue, Config.heardLimit]

section
variable {r : Roster} {cursor a : StAddr} {due : StationEntry → Prop} {candidate : StationEntry → Bool}
  (hc : ∀ e, candidate e = true ↔ due e)
include hc

theorem Roster.pick_of_firstFrom (h : r.FirstFrom cursor due a) : r.pick cursor candidate = some a := by
  obtain ⟨n, hn, rfl, hdue, hfirst⟩ := h
  have at_ : ∀ m, (hm : m < 30) → ((List.finRange 30).map (cursor + ·))[m]'(by simpa using hm) = cursor + Fin.ofNat 30 m := by
    intro m hm
    rw [List.getElem_map, List.getElem_finRange]
    exact congrArg (cursor + ·) (Fin.ext (Nat.mod_eq_of_lt hm).symm)
  rw [Roster.pick, List.find?_eq_some_iff_getElem]
  refine ⟨(hc _).mpr hdue, n, by simpa using hn, at_ n hn, fun m hm => ?_⟩
  rw [at_ m (hm.trans hn), Bool.not_eq_true', ← Bool.not_eq_true, hc]
  exact hfirst m hm

theorem Roster.pick_of_noneDue (h : r.NoneDue due) : r.pick cursor candidate = none := by
  rw [Roster.pick, List.find?_eq_none]
  intro a _
  rw [hc]
  exact h a

end

theorem Roster.rollBid_of_firstFrom {r : Roster} {a : StAddr} (h : r.FirstFrom r.rollCursor RollDue a) :
    r.rollBid = some (.roll a) := by
  rw [Roster.rollBid, Roster.pick_of_firstFrom StationEntry.rollCandidate_iff h, Option.map_some]

theorem Roster.rollBid_of_noneDue {r : Roster} (h : r.NoneDue RollDue) : r.rollBid = none := by
  rw [Roster.rollBid, Roster.pick_of_noneDue StationEntry.rollCandidate_iff h, Option.map_none]

theorem Roster.presenceBid_of_firstFrom {r : Roster} {a : StAddr} (h : r.FirstFrom r.presenceCursor PresenceDue a) :
    r.presenceBid = some (.presence a) := by
  rw [Roster.presenceBid, Roster.pick_of_firstFrom StationEntry.presenceCandidate_iff h, Option.map_some]

theorem Roster.presenceBid_of_noneDue {r : Roster} (h : r.NoneDue PresenceDue) : r.presenceBid = none := by
  rw [Roster.presenceBid, Roster.pick_of_noneDue StationEntry.presenceCandidate_iff h, Option.map_none]

/-! ### The bid of a round start (R25, R77) -/

section
variable {l : LiveSchedule} {a : StAddr} (hl : s.sched.live = some l) (hk : k ∈ l.pairs)
include hl hk

theorem State.firstPairOfRound_iff :
    s.firstPairOfRound k = true ↔ s.port.frameNo.toNat % 16 = 0 ∧ ∀ j ∈ l.pairs, k ≤ j := by
  simp [State.firstPairOfRound, roundStart, State.frame_eq, hl, List.min?_eq_some_iff, hk]

/-- The first pair of a round start takes the roster's bid. -/
theorem State.arbitrate_bid {b : RosterBid} (ht : s.port.trunk = .running) (hround : s.port.frameNo.toNat % 16 = 0)
    (hfirst : ∀ j ∈ l.pairs, k ≤ j) (hb : s.roster.bid s.port.frameNo = some b) : s.arbitrate k = s.sendBid b := by
  have first : s.firstPairOfRound k = true := (State.firstPairOfRound_iff hl hk).mpr ⟨hround, hfirst⟩
  simp [State.arbitrate, ht, first, State.frame_eq, hb]

/-- Where the roster has no claim the requesters are served by the turn marker (R79, R95). -/
theorem State.arbitrate_byTurn (h : s.ByTurn k l) : s.arbitrate k = s.serveByTurn := by
  obtain ⟨ht, hnone⟩ := h
  by_cases first : s.firstPairOfRound k = true
  · obtain ⟨hround, hmin⟩ := (State.firstPairOfRound_iff hl hk).mp first
    obtain ⟨hroll, hpres⟩ := hnone hround hmin
    have nobid : s.roster.bid s.frame = none := by
      simp [Roster.bid, Roster.rollBid_of_noneDue hroll, Roster.presenceBid_of_noneDue hpres]
    simp [State.arbitrate, ht, first, nobid]
  · simp [State.arbitrate, ht, first]

end

/-! ### The examination of the requesters (R95, R100, R124) -/

section
variable {before after : List HostRecord} {r : HostRecord}

theorem State.examine_skipped (h : ∀ q ∈ before, q.Skipped s) (rest : List HostRecord) :
    s.examine (before ++ rest) = s.examine rest := by
  induction before with
  | nil => rfl
  | cons q before ih =>
    have passes : s.examine (q :: (before ++ rest)) = s.examine (before ++ rest) := by
      rcases h q List.mem_cons_self with hi | ⟨hw, hd⟩ | ⟨hq, hu, hm⟩
      · simp only [State.examine, hi]
      · simp [State.examine, hw, hd]
      · simp [State.examine, hq, hu, hm]
    rw [List.cons_append, passes, ih fun x hx => h x (List.mem_cons_of_mem _ hx)]

theorem State.examine_ready (h : r.Ready s) : s.examine (r :: after) = (s, some r) := by
  rcases h with ⟨hq, hu, hm⟩ | ⟨hw, hd⟩
  · simp [State.examine, hq, hu, hm]
  · simp [State.examine, hw, hd]

theorem State.examine_unavailable (hq : r.attempt.state = .queued)
    (hu : (s.entry r.request.station).state.unavailable = true) :
    s.examine (r :: after) = (s.completeHost r .stationUnavailable 0 []).examine after := by
  simp only [State.examine, hq, hu, if_true]

theorem State.examine_none (h : ∀ q ∈ s.engine.queue, q.Skipped s) : s.examine s.engine.queue = (s, none) := by
  have := State.examine_skipped h []
  rwa [List.append_nil] at this

end

theorem State.batchEligible_of_ready {l : BatchList} {r : BatchRun} {c : CurrentItem} {it : TxnRequest}
    (h : s.BatchReady l r c it) : s.batchEligible = some (l, r, c, it) := by
  obtain ⟨hb, hw, ha, hc, hi, ⟨hq, hm⟩ | ⟨hs, hd⟩⟩ := h
  · simp [State.batchEligible, hb, hw, ha, hc, hi, hq, hm]
  · simp [State.batchEligible, hb, hw, ha, hc, hi, hs, hd]

theorem State.batchReady_of_eligible {l : BatchList} {r : BatchRun} {c : CurrentItem} {it : TxnRequest}
    (h : s.batchEligible = some (l, r, c, it)) : s.BatchReady l r c it := by
  unfold State.batchEligible at h
  cases hb : s.batch.state with
  | empty => simp [hb] at h
  | loaded l' => simp [hb] at h
  | running l' r' =>
    cases hc : r'.current with
    | none => simp [hb, hc] at h
    | some c' =>
      cases hi : l'.item c'.index with
      | none => simp [hb, hc, hi] at h
      | some it' =>
        cases hs : c'.attempt.state with
        | queued =>
          simp only [hb, hc, hi, hs, Option.ite_none_right_eq_some, Option.some.injEq, Prod.mk.injEq, Bool.and_eq_true,
            Bool.not_eq_true', Option.isNone_iff_eq_none] at h
          obtain ⟨⟨⟨hw, ha⟩, hm⟩, rfl, rfl, rfl, rfl⟩ := h
          exact ⟨hb, hw, ha, hc, hi, .inl ⟨hs, hm⟩⟩
        | waiting =>
          simp only [hb, hc, hi, hs, Option.ite_none_right_eq_some, Option.some.injEq, Prod.mk.injEq, Bool.and_eq_true,
            Bool.not_eq_true'] at h
          obtain ⟨⟨⟨hw, ha⟩, hd⟩, rfl, rfl, rfl, rfl⟩ := h
          exact ⟨hb, hw, ha, hc, hi, .inr ⟨hs, hd⟩⟩
        | issued => simp [hb, hc, hi, hs] at h

theorem State.batchEligible_none (h : ∀ l r c it, ¬ s.BatchReady l r c it) : s.batchEligible = none :=
  Option.eq_none_iff_forall_ne_some.mpr fun ⟨l, r, c, it⟩ he => h l r c it (State.batchReady_of_eligible he)

/-- The host queue's record takes the pair (R95). -/
theorem State.serveByTurn_host {r : HostRecord} (hx : s.examine s.engine.queue = (s, some r))
    (ht : s.engine.turn = .host ∨ s.batchEligible = none) : s.serveByTurn = (s.issueHost r).setTurn .batch := by
  have asked : s.askHost = ((s.issueHost r).setTurn .batch, true) := by simp only [State.askHost, hx]
  cases hturn : s.engine.turn with
  | host => simp [State.serveByTurn, hturn, asked]
  | batch =>
    have idle : s.batchEligible = none := ht.resolve_left (by simp [hturn])
    simp [State.serveByTurn, hturn, State.askBatch, idle, asked]

/-- The batch unit's item takes the pair (R95). -/
theorem State.serveByTurn_batch {l : BatchList} {r : BatchRun} {c : CurrentItem} {it : TxnRequest}
    (hb : s.batchEligible = some (l, r, c, it))
    (ht : s.engine.turn = .batch ∨ s.examine s.engine.queue = (s, none)) :
    s.serveByTurn = (s.issueBatch l r c it).setTurn .host := by
  have asked : s.askBatch = ((s.issueBatch l r c it).setTurn .host, true) := by simp only [State.askBatch, hb]
  cases hturn : s.engine.turn with
  | host =>
    have idle : s.examine s.engine.queue = (s, none) := ht.resolve_left (by simp [hturn])
    simp [State.serveByTurn, hturn, State.askHost, idle, asked]
  | batch => simp [State.serveByTurn, hturn, asked]

/-- Nobody takes the pair: NULL is sent (R95). -/
theorem State.serveByTurn_none (hx : s.examine s.engine.queue = (s, none)) (hb : s.batchEligible = none) :
    s.serveByTurn = s.sendNull := by
  cases hturn : s.engine.turn <;> simp [State.serveByTurn, hturn, State.askHost, State.askBatch, hx, hb]

/-! ### The cell and the state of an issue (R102, R103, R126) -/

theorem TxnRequest.cell_eq (r : TxnRequest) (t : Token) : cellBytes (requestHeader r.station t) r.payload = r.cell t := by
  have high : (r.object.setWidth 16).extractLsb' 8 8 = BitVec.ofNat 8 (r.object.toNat / 256) := by
    apply BitVec.eq_of_toNat_eq
    simp only [BitVec.extractLsb'_toNat, BitVec.toNat_setWidth, BitVec.toNat_ofNat, Nat.shiftRight_eq_div_pow]
    omega
  have low : (r.object.setWidth 16).extractLsb' 0 8 = BitVec.ofNat 8 r.object.toNat := by
    apply BitVec.eq_of_toNat_eq
    simp only [BitVec.extractLsb'_toNat, BitVec.toNat_setWidth, BitVec.toNat_ofNat, Nat.shiftRight_eq_div_pow]
    omega
  rw [TxnRequest.cell, TxnRequest.payload, high, low]
  rfl

theorem Attempt.issueAt_eq (f : FrameNo) (t : Token) (x : Attempt) : x.issueAt f t = x.nowIssued f t := by
  unfold Attempt.issueAt Attempt.nowIssued Attempt.wasIssued
  cases x.state <;> rfl

/-- The token fixed by R102: the next one of the station at a first issue, the transaction's own at a reissue. -/
theorem State.issueToken_eq {req : TxnRequest} {x : Attempt} {t : Token}
    (h : if x.state = .queued then t = s.engine.tokens.get req.station + 1 else x.token = some t) :
    s.issueToken req x = t := by
  by_cases hq : x.state = .queued
  · rw [if_pos hq] at h
    simp [State.issueToken, Attempt.wasIssued, hq, State.nextToken, h]
  · rw [if_neg hq] at h
    simp [State.issueToken, Attempt.wasIssued, hq, h]

/-- What an issue leaves: at a first issue the token and the marker are taken; the cell is on the line. -/
theorem State.issueRequest_eq {req : TxnRequest} {x : Attempt} {t : Token}
    (h : if x.state = .queued then t = s.engine.tokens.get req.station + 1 else x.token = some t)
    (user : PairUser) (m : Marker) : s.issueRequest user m req x = { s with
      port.tx := some (req.cell t), port.hit := false, port.pair := some ⟨user, req.station, t⟩
      engine.tokens := if x.state = .queued then s.engine.tokens.set req.station t else s.engine.tokens
      roster := if x.state = .queued then (s.setEntry req.station { s.entry req.station with marker := some m }).roster
        else s.roster } := by
  have token := State.issueToken_eq h
  rw [State.issueRequest, token, TxnRequest.cell_eq]
  by_cases hq : x.state = .queued
  · have first : ¬ x.wasIssued = true := by simp [Attempt.wasIssued, hq]
    rw [if_pos hq] at h
    simp only [if_neg first, if_pos hq, h]
    rfl
  · have again : x.wasIssued = true := by simpa [Attempt.wasIssued] using hq
    simp only [if_pos again, if_neg hq]
    rfl

/-! ### The open pair -/

/-- Slot `k` is the OPEN slot of a pair: the arbiter decides. -/
theorem State.OpensNext.exec_of_arbitrate {l : LiveSchedule} {u : State} {cell : List Byte} {pair : Option Pair}
    (h : s.OpensNext k) (hl : s.sched.live = some l) (hk : k ∈ l.pairs)
    (hu : (s.withPort s.port.release).arbitrate k =
      u.withPort { s.port with tx := some cell, hit := false, pair := pair }) :
    exec .slotOpen s =
      .next (State.opened k (some cell) .sendPair { u with port := { s.port with pair := pair } }) := by
  have use : (s.withPort s.port.release).slotUse k = .openSlot := by
    simp only [State.slotUse, State.withPort_sched, hl, LiveSchedule.use, if_pos hk]
  rw [h.exec_of_openUse (u := (s.withPort s.port.release).arbitrate k) (mode := .sendPair) (by rw [State.openUse, use]), hu]
  rfl

/-- A queued record to an unavailable station completes, and the examination goes on as if it had not been there (R100). -/
theorem State.serveByTurn_congr {u : State} (hx : s.examine s.engine.queue = u.examine u.engine.queue)
    (hturn : u.engine.turn = s.engine.turn) (hbatch : s.engine.turn = .host ∨ (s.batchEligible = none ∧ u.batchEligible = none)) :
    s.serveByTurn = u.serveByTurn := by
  have asked : s.askHost = u.askHost := by simp only [State.askHost, hx]
  cases ht : s.engine.turn with
  | host => simp only [State.serveByTurn, hturn, ht, asked]
  | batch =>
    obtain ⟨hs, hu⟩ := hbatch.resolve_left (by simp [ht])
    simp [State.serveByTurn, hturn, ht, State.askBatch, hs, hu, asked]

/-- Settles O56: the roster's bid, the requester of the turn, or NULL takes the pair. -/
theorem slotOpensOnPair : Obligations.SlotOpensOnPair := by
  intro k l s hopen hl sent rolls checks nothing
  refine ⟨?reply, fun hk => ⟨?startingRoll, ?startingNull, ?bids, fun hturn => ⟨?host, ?batch, ?nobody, ?unavailable⟩⟩⟩
  case reply =>
    rintro hk ⟨j, hj, rfl⟩
    have use : (s.withPort s.port.release).slotUse (j + 1) = .replySlot := by
      simp [State.slotUse, hl, LiveSchedule.use, hk, hj]
    refine hopen.exec_of_no_cell ?_
    rw [State.openUse, use]
    simp only [State.openReply]
    cases hp : s.port.pair <;> simp [Port.release, hp]
  case startingRoll =>
    intro ht a ha
    refine hopen.exec_of_arbitrate hl hk ?_
    have bid : (s.withPort s.port.release).roster.rollBid = some (.roll a) := Roster.rollBid_of_firstFrom ha
    have starting : (s.withPort s.port.release).port.trunk = .starting := ht
    rw [State.arbitrate, if_pos starting, bid]
    rfl
  case startingNull =>
    intro ht hnone
    refine hopen.exec_of_arbitrate hl hk ?_
    have bid : (s.withPort s.port.release).roster.rollBid = none := Roster.rollBid_of_noneDue hnone
    have starting : (s.withPort s.port.release).port.trunk = .starting := ht
    rw [State.arbitrate, if_pos starting, bid]
    rfl
  case bids =>
    intro ht hround hfirst a
    have takes : ∀ b, s.roster.bid s.port.frameNo = some b →
        (s.withPort s.port.release).arbitrate k = (s.withPort s.port.release).sendBid b := fun b hb =>
      State.arbitrate_bid (s := s.withPort s.port.release) hl hk ht hround hfirst hb
    refine ⟨fun ha hwhy => hopen.exec_of_arbitrate hl hk ?roll, fun ha hwhy => hopen.exec_of_arbitrate hl hk ?presence⟩
    case roll =>
      have bid : s.roster.bid s.port.frameNo = some (.roll a) := by
        rw [Roster.bid, Roster.rollBid_of_firstFrom ha]
        rcases hwhy with heven | hnone
        · simp [evenRound, heven]
        · simp [Roster.presenceBid_of_noneDue hnone]
      rw [takes _ bid]
      rfl
    case presence =>
      have bid : s.roster.bid s.port.frameNo = some (.presence a) := by
        rw [Roster.bid, Roster.presenceBid_of_firstFrom ha]
        rcases hwhy with hodd | hnone
        · simp [evenRound, hodd]
        · simp [Roster.rollBid_of_noneDue hnone]
      rw [takes _ bid]
      rfl
  all_goals
    have serves : (s.withPort s.port.release).arbitrate k = (s.withPort s.port.release).serveByTurn :=
      State.arbitrate_byTurn (s := s.withPort s.port.release) hl hk hturn
  case host =>
    intro hnodup before r after t hq hskip hready hturn' ht
    have chosen : (s.withPort s.port.release).examine s.engine.queue = (s.withPort s.port.release, some r) := by
      rw [hq, State.examine_skipped (s := s.withPort s.port.release) hskip, State.examine_ready (s := s.withPort s.port.release) hready]
    have idle : s.engine.turn = .host ∨ (s.withPort s.port.release).batchEligible = none :=
      hturn'.imp_right fun h => State.batchEligible_none (s := s.withPort s.port.release) h
    refine hopen.exec_of_arbitrate hl hk ?_
    rw [serves, State.serveByTurn_host (s := s.withPort s.port.release) chosen idle, State.issueHost,
      State.issueToken_eq (s := s.withPort s.port.release) ht, State.issueRequest_eq (s := s.withPort s.port.release) ht,
      State.setAttempt_middle (by exact hq) (by exact hnodup), Attempt.issueAt_eq]
    rfl
  case batch =>
    intro b r c it t hready hturn' ht
    have eligible := State.batchEligible_of_ready (s := s.withPort s.port.release) hready
    have idle : s.engine.turn = .batch ∨
        (s.withPort s.port.release).examine s.engine.queue = (s.withPort s.port.release, none) :=
      hturn'.imp_right fun h => State.examine_none (s := s.withPort s.port.release) h
    refine hopen.exec_of_arbitrate hl hk ?_
    rw [serves, State.serveByTurn_batch eligible idle, State.issueBatch,
      State.issueToken_eq (s := s.withPort s.port.release) ht, State.issueRequest_eq (s := s.withPort s.port.release) ht,
      Attempt.issueAt_eq]
    rfl
  case nobody =>
    intro hskip hnone
    refine hopen.exec_of_arbitrate hl hk ?_
    rw [serves, State.serveByTurn_none (State.examine_none (s := s.withPort s.port.release) hskip)
      (State.batchEligible_none (s := s.withPort s.port.release) hnone)]
    rfl
  case unavailable =>
    intro hnodup before r after hq hskip hqueued hgone hturn' done hdone
    have completed : (s.withPort s.port.release).completeHost r .stationUnavailable 0 [] =
        done.withPort done.port.release := by
      have queued : ¬ r.attempt.wasIssued = true := by simp [Attempt.wasIssued, hqueued]
      rw [State.completeHost_middle (s := s.withPort s.port.release) hq hnodup, if_neg queued]
      rfl
    have examined : (s.withPort s.port.release).examine s.engine.queue =
        (done.withPort done.port.release).examine (before ++ after) := by
      rw [hq, State.examine_skipped (s := s.withPort s.port.release) hskip,
        State.examine_unavailable (s := s.withPort s.port.release) hqueued hgone, completed,
        State.examine_skipped (s := done.withPort done.port.release) hskip]
    have idle : s.engine.turn = .host ∨ ((s.withPort s.port.release).batchEligible = none ∧
        (done.withPort done.port.release).batchEligible = none) :=
      hturn'.imp_right fun h => ⟨State.batchEligible_none (s := s.withPort s.port.release) h,
        State.batchEligible_none (s := done.withPort done.port.release) h⟩
    have same : (s.withPort s.port.release).arbitrate k = (done.withPort done.port.release).arbitrate k := by
      rw [serves, State.arbitrate_byTurn (s := done.withPort done.port.release) hl hk hturn]
      exact State.serveByTurn_congr examined rfl idle
    have opens : ∀ u : State, u.sched.live = some l →
        (u.withPort u.port.release).openUse k = ((u.withPort u.port.release).arbitrate k, .sendPair) := by
      intro u hu
      simp only [State.openUse, State.slotUse, State.withPort_sched, hu, LiveSchedule.use, if_pos hk]
    rw [hopen.exec_of_openUse (opens s hl), hdone.exec_of_openUse (opens done hl), same]

end Sys2Proof.Machine
end

section
/-! The loss of a station with its cascade, identity, and a REPLY slot that closes after a roll call or a presence check (R52,
R53, R74, R75, R80 to R84, R90, R112, R131). -/

namespace Sys2Proof.Machine

variable {s : State} {a : StAddr} {k : Nat} {line : SlotLine}

/-! ### Circuits that follow their station (R51 to R53) -/

/-- The delivery queue keeps all but the free count. -/
theorem State.mapLive_delivery (s : State) (f : LiveCircuit → LiveCircuit) :
    (s.mapLive f).delivery = { s.delivery with free := (s.mapLive f).delivery.free } := by
  simp only [State.mapLive, State.setLiveTable_delivery, State.onDelivery_delivery, Delivery.giveBack]

/-- Circuits that hold as many buffers as before leave the pool alone. -/
theorem State.mapLive_delivery_of_held_eq {f : LiveCircuit → LiveCircuit} (h : ∀ c, (f c).run.held = c.run.held) :
    (s.mapLive f).delivery = s.delivery := by
  have held : heldBy ∘ Option.map f = heldBy := by
    funext c
    cases c with
    | none => rfl
    | some c => exact h c
  simp only [State.mapLive, State.setLiveTable_delivery, State.onDelivery_delivery, Table.sum_map, held, Nat.sub_self,
    Delivery.giveBack, Nat.add_zero]

theorem LiveCircuit.resume_held (c : LiveCircuit) : c.resume.run.held = c.run.held := rfl

theorem LiveCircuit.follow_true (c : LiveCircuit) :
    c.follow true = if c.run.runState = .stalled then c.resume else c := by
  unfold LiveCircuit.follow
  cases hr : c.run.runState <;> simp

theorem LiveCircuit.follow_false (c : LiveCircuit) :
    c.follow false = if c.run.runState = .running then c.stall else c := by
  unfold LiveCircuit.follow
  cases hr : c.run.runState <;> simp

theorem State.followStation_eq (s : State) (a : StAddr) : s.followStation a =
    s.mapLive fun c => if c.defn.station? = some a then c.follow (s.entry a).state.fit else c := rfl

/-- The circuits of a station that becomes fit resume (R52). -/
theorem State.circuit_followStation_fit (h : (s.entry a).state.fit = true) (id : CircuitId) :
    (s.followStation a).circuit id = (s.circuit id).map fun c =>
      if c.defn.station? = some a ∧ c.run.runState = .stalled then c.resume else c := by
  rw [State.followStation_eq, State.circuit_mapLive, h]
  congr 1
  funext c
  rw [LiveCircuit.follow_true, ite_and]

/-- The circuits of a station that is fit no more stall (R53). -/
theorem State.circuit_followStation_unfit (h : (s.entry a).state.fit = false) (id : CircuitId) :
    (s.followStation a).circuit id = (s.circuit id).map fun c =>
      if c.defn.station? = some a ∧ c.run.runState = .running then c.stall else c := by
  rw [State.followStation_eq, State.circuit_mapLive, h]
  congr 1
  funext c
  rw [LiveCircuit.follow_false, ite_and]

theorem State.followStation_balance (s : State) (a : StAddr) :
    (s.followStation a).delivery.free + (s.followStation a).circuitsHeld = s.delivery.free + s.circuitsHeld := by
  refine s.mapLive_balance _ fun c => ?_
  split
  · exact c.follow_held_le _
  · exact Nat.le_refl _

theorem State.followStation_delivery_of_fit (h : (s.entry a).state.fit = true) :
    (s.followStation a).delivery = s.delivery := by
  rw [State.followStation_eq, h]
  refine State.mapLive_delivery_of_held_eq fun c => ?_
  rw [LiveCircuit.follow_true]
  split
  · split
    · exact c.resume_held
    · rfl
  · rfl

theorem Inner.pairs {s t : State} (h : Inner s t) :
    t.sched.live.map LiveSchedule.pairs = s.sched.live.map LiveSchedule.pairs := by
  have := congrArg (Option.map Draft.pairs) h.live
  rwa [Option.map_map, Option.map_map] at this

/-! ### The transactions of a station (R73, R112) -/

/-- The host records to a station that are in progress. -/
def State.markingRecords (a : StAddr) (s : State) : List HostRecord := s.engine.queue.filter (HostRecord.marking a)

theorem HostRecord.marking_iff {r : HostRecord} :
    r.marking a = true ↔ r.request.station = a ∧ r.attempt.wasIssued = true := by simp [HostRecord.marking]

/-- The batch item's marker is of the batch unit. -/
theorem BatchState.source_of_outstanding {b : BatchState} {m : Marker} (h : m ∈ b.outstanding a) : m.source = .batch := by
  unfold BatchState.outstanding at h
  cases b with
  | empty => cases h
  | loaded l => cases h
  | running l r =>
    cases hc : r.current with
    | none => simp [hc] at h
    | some c =>
      cases hi : l.item c.index with
      | none => simp [hc, hi] at h
      | some it =>
        have : m = ⟨.batch, r.tag⟩ := by simpa [hc, hi] using And.right (by simpa [hc, hi] using h)
        rw [this]

/-- No host record is in progress to a station without a host record's marker. -/
theorem State.MarkerLaw.none_marking (h : s.MarkerLaw) (hm : ∀ tag, (s.entry a).marker ≠ some ⟨.host, tag⟩) :
    s.markingRecords a = [] := by
  have law := h a
  cases hr : s.markingRecords a with
  | nil => rfl
  | cons r rest =>
    have out : s.hostOutstanding a = ⟨.host, r.tag⟩ :: rest.map fun r => ⟨.host, r.tag⟩ := by
      rw [State.hostOutstanding, show s.engine.queue.filter (HostRecord.marking a) = r :: rest from hr, List.map_cons]
    rw [out] at law
    cases hma : (s.entry a).marker with
    | none => rw [hma] at law; cases law
    | some m =>
      rw [hma] at law
      exact absurd (hma.trans (congrArg some (List.cons.inj law).1.symm)) (hm r.tag)

/-- The marker of a host record names the one that is in progress. -/
theorem State.MarkerLaw.one_marking (h : s.MarkerLaw) {tag : Byte} (hm : (s.entry a).marker = some ⟨.host, tag⟩) :
    ∃ r, s.markingRecords a = [r] ∧ r.tag = tag := by
  have law := h a
  rw [hm, Option.toList_some] at law
  have out : s.hostOutstanding a = (s.markingRecords a).map fun r => ⟨.host, r.tag⟩ := rfl
  rw [out] at law
  cases hr : s.markingRecords a with
  | nil =>
    rw [hr, List.map_nil, List.nil_append] at law
    have : (⟨.host, tag⟩ : Marker) ∈ s.batch.state.outstanding a := by rw [law]; exact List.mem_singleton_self _
    cases BatchState.source_of_outstanding this
  | cons r rest =>
    rw [hr, List.map_cons, List.cons_append] at law
    obtain ⟨htag, hrest⟩ := List.cons.inj law
    have : rest = [] := List.map_eq_nil_iff.mp (List.append_eq_nil_iff.mp hrest).1
    exact ⟨r, by rw [this], congrArg Marker.tag htag⟩

theorem State.mem_goneRecords {x : HostRecord} :
    x ∈ s.goneRecords a ↔ x ∈ s.engine.queue ∧ x.request.station = a := by
  simp only [State.goneRecords, List.mem_append, List.mem_filter, Bool.and_eq_true, beq_iff_eq, bne_iff_ne]
  by_cases hq : x.attempt.state = .queued <;> simp [hq]

/-- A tag of the queue goes with the station exactly where its record is to the station. -/
theorem State.tag_mem_gone_iff (hn : (s.engine.queue.map HostRecord.tag).Nodup) {x : HostRecord} (hx : x ∈ s.engine.queue) :
    x.tag ∈ (s.goneRecords a).map HostRecord.tag ↔ x.request.station = a := by
  constructor
  · intro hm
    obtain ⟨y, hy, hyx⟩ := List.mem_map.mp hm
    obtain ⟨hyq, hys⟩ := State.mem_goneRecords.mp hy
    rwa [← HostRecord.eq_of_tag hn hyq hx hyx]
  · intro hs
    exact List.mem_map.mpr ⟨x, State.mem_goneRecords.mpr ⟨hx, hs⟩, rfl⟩

/-- The records that go: the ones in progress, then the queued ones. -/
theorem State.goneRecords_eq (s : State) (a : StAddr) : s.goneRecords a = s.markingRecords a ++
    s.engine.queue.filter fun r => r.request.station == a && r.attempt.state == .queued := rfl

/-- With no record in progress, the records that go are those of the station. -/
theorem State.recordsOf_eq_gone (h : s.markingRecords a = []) : s.recordsOf a = s.goneRecords a := by
  rw [State.goneRecords_eq, h, List.nil_append, State.recordsOf]
  refine List.filter_congr fun x hx => ?_
  by_cases hs : x.request.station = a
  · have : ¬ x.marking a = true := fun hm => by
      have : x ∈ s.markingRecords a := List.mem_filter.mpr ⟨hx, hm⟩
      rw [h] at this
      cases this
    rw [HostRecord.marking_iff] at this
    simpa [hs, Attempt.wasIssued] using this
  · simp [hs]

/-- The records of a station but the one in progress are the queued ones. -/
theorem State.recordsOf_erase {r : HostRecord} (hn : (s.engine.queue.map HostRecord.tag).Nodup)
    (h : s.markingRecords a = [r]) :
    ((s.engine.queue.eraseP fun x => x.tag == r.tag).filter fun x => x.request.station == a) =
      s.engine.queue.filter fun x => x.request.station == a && x.attempt.state == .queued := by
  have member : ∀ x, x ∈ s.markingRecords a ↔ x = r := fun x => by rw [h]; exact List.mem_singleton
  obtain ⟨hr, hmr⟩ := List.mem_filter.mp ((member r).mpr rfl)
  obtain ⟨-, hissued⟩ := HostRecord.marking_iff.mp hmr
  rw [eraseP_tag_eq_filter hn, List.filter_filter]
  refine List.filter_congr fun x hx => ?_
  by_cases hs : x.request.station = a
  · by_cases hq : x.attempt.state = .queued
    · have : x.tag ≠ r.tag := fun ht => by
        obtain rfl := HostRecord.eq_of_tag hn hx hr ht
        simp [Attempt.wasIssued, hq] at hissued
      simp [hs, hq, this]
    · have : x = r := (member x).mp (List.mem_filter.mpr
        ⟨hx, HostRecord.marking_iff.mpr ⟨hs, by simpa [Attempt.wasIssued] using hq⟩⟩)
      subst this
      simp [hs, hq]
  · have : (x.request.station == a) = false := beq_false_of_ne hs
    simp [this]

/-- The host cascade completes the station's records, the one in progress first (R112). -/
theorem State.cascadeHost_eq (hn : (s.engine.queue.map HostRecord.tag).Nodup) (hm : s.MarkerLaw) (o : TxnOutcome) :
    (s.cascadeHost a o).1 = s.completeAll o (s.goneRecords a) := by
  have unheld : s.holderOf a = none → s.markingRecords a = [] →
      (s.cascadeHost a o).1 = s.completeAll o (s.goneRecords a) := by
    intro hh hr
    simp only [State.cascadeHost, hh, State.recordsOf_eq_gone hr]
  cases hma : (s.entry a).marker with
  | none => exact unheld (by simp [State.holderOf, hma]) (hm.none_marking (by simp [hma]))
  | some m =>
    obtain ⟨source, tag⟩ := m
    cases source with
    | batch => exact unheld (by simp [State.holderOf, hma]) (hm.none_marking (by simp [hma]))
    | host =>
      obtain ⟨r, hr, rfl⟩ := hm.one_marking hma
      have mem : r ∈ s.markingRecords a := by rw [hr]; exact List.mem_singleton_self r
      obtain ⟨hq, hmr⟩ := List.mem_filter.mp mem
      obtain ⟨hstation, -⟩ := HostRecord.marking_iff.mp hmr
      have holder : s.holderOf a = some r := by
        simp only [State.holderOf, hma]
        cases hf : s.engine.queue.find? fun x => x.request.station == a && x.tag == r.tag with
        | none =>
          have := List.find?_eq_none.mp hf r hq
          simp [hstation] at this
        | some x =>
          have htag := List.find?_some hf
          simp only [Bool.and_eq_true, beq_iff_eq] at htag
          rw [HostRecord.eq_of_tag hn (List.mem_of_find?_eq_some hf) hq htag.2]
      simp only [State.cascadeHost, holder]
      rw [State.recordsOf, State.completeHost_queue, State.recordsOf_erase hn hr, ← State.completeAll_cons,
        State.goneRecords_eq, hr, List.singleton_append]

/-! ### The station that goes (R53, R84, R87, R112) -/

theorem State.MarkerLaw.of_setEntry {e : StationEntry} (h : s.MarkerLaw) (he : e.marker = (s.entry a).marker) :
    (s.setEntry a e).MarkerLaw := by
  intro b
  rw [State.entry_setEntry]
  by_cases hb : a = b
  · subst hb
    rw [if_pos rfl, he]
    exact h a
  · rw [if_neg hb]
    exact h b

/-- The marker of the station is cleared where it names a host record. -/
theorem State.MarkerLaw.marker_of_gone (h : s.MarkerLaw) :
    (if ∃ r ∈ s.goneRecords a, r.attempt.wasIssued = true ∧ r.request.station = a then none else (s.entry a).marker) =
      match (s.entry a).marker with
      | none => none
      | some ⟨.host, _⟩ => none
      | some ⟨.batch, tag⟩ => some ⟨.batch, tag⟩ := by
  have marking : (∃ r ∈ s.goneRecords a, r.attempt.wasIssued = true ∧ r.request.station = a) ↔
      s.markingRecords a ≠ [] := by
    constructor
    · rintro ⟨r, hr, hi, hs⟩ hnil
      have : r ∈ s.markingRecords a :=
        List.mem_filter.mpr ⟨(State.mem_goneRecords.mp hr).1, HostRecord.marking_iff.mpr ⟨hs, hi⟩⟩
      rw [hnil] at this
      cases this
    · intro hne
      obtain ⟨r, hr⟩ := List.exists_mem_of_ne_nil _ hne
      obtain ⟨hq, hm⟩ := List.mem_filter.mp hr
      obtain ⟨hs, hi⟩ := HostRecord.marking_iff.mp hm
      exact ⟨r, State.mem_goneRecords.mpr ⟨hq, hs⟩, hi, hs⟩
  cases hma : (s.entry a).marker with
  | none => simp
  | some m =>
    obtain ⟨source, tag⟩ := m
    cases source with
    | batch =>
      have := h.none_marking (a := a) (by simp [hma])
      rw [if_neg (by rw [marking, this]; simp)]
    | host =>
      obtain ⟨r, hr, -⟩ := h.one_marking hma
      rw [if_pos (by rw [marking, hr]; simp)]

/-- The entry is set, the circuits stall, and the host records complete (R84, R87). -/
theorem State.stationGone (acc : s.Accounting) (law : s.MarkerLaw) {e : StationEntry} (he : e.marker = (s.entry a).marker)
    (hfit : e.state.fit = false) (o : TxnOutcome) :
    StationGone s a e o (((s.setEntry a e).followStation a).cascadeHost a o).1 := by
  have roster : ((s.setEntry a e).followStation a).roster = (s.setEntry a e).roster := State.mapLive_roster _ _
  have engine : ((s.setEntry a e).followStation a).engine = s.engine := State.mapLive_engine _ _
  have batch : ((s.setEntry a e).followStation a).batch = s.batch := State.mapLive_batch _ _
  have entry : ∀ b, ((s.setEntry a e).followStation a).entry b = (s.setEntry a e).entry b := fun b => by
    rw [State.entry, roster]; rfl
  have gone : ((s.setEntry a e).followStation a).goneRecords a = s.goneRecords a := by
    rw [State.goneRecords, engine]; rfl
  have nodup : (((s.setEntry a e).followStation a).engine.queue.map HostRecord.tag).Nodup := by
    rw [engine]; exact acc.queueTags_nodup
  have law' : ((s.setEntry a e).followStation a).MarkerLaw := by
    intro b
    rw [State.hostOutstanding, engine, batch, entry]
    exact law.of_setEntry he b
  have inner : Inner s (((s.setEntry a e).followStation a).cascadeHost a o).1 :=
    (s.setEntry_followStation_inner a e).trans (State.cascadeHost_inner _ a o)
  have marker := law'.marker_of_gone (a := a)
  rw [gone, entry, State.entry_setEntry_self] at marker
  rw [State.cascadeHost_eq nodup law', gone] at inner ⊢
  have delivery := State.completeAll_delivery o (s.goneRecords a) ((s.setEntry a e).followStation a)
  constructor
  case entry =>
    rw [State.completeAll_entry, entry, State.entry_setEntry_self]
    exact congrArg (fun m => ({ e with marker := m } : StationEntry)) marker
  case others =>
    intro b hb
    have away : ¬ ∃ r ∈ s.goneRecords a, r.attempt.wasIssued = true ∧ r.request.station = b := by
      rintro ⟨r, hr, -, hs⟩
      exact hb (hs.symm.trans (State.mem_goneRecords.mp hr).2)
    rw [State.completeAll_entry, if_neg away, entry, State.entry_setEntry, if_neg (Ne.symm hb)]
  case cursors => rw [State.completeAll_rollCursor, State.completeAll_presenceCursor, roster]; exact ⟨rfl, rfl⟩
  case circuits =>
    intro id
    rw [State.circuit_congr (State.completeAll_sched _ _ _) id, State.circuit_followStation_unfit
      (by rw [State.entry_setEntry_self]; exact hfit)]
    rfl
  case pool =>
    rw [delivery, State.circuitsHeld_congr (State.completeAll_sched _ _ _)]
    exact State.followStation_balance _ _
  case engine =>
    have kept : (s.engine.queue.filter fun x => decide (x.tag ∉ (s.goneRecords a).map HostRecord.tag)) =
        s.engine.queue.filter fun r => r.request.station ≠ a := List.filter_congr fun x hx => by
      simp [State.tag_mem_gone_iff acc.queueTags_nodup hx]
    rw [State.completeAll_engine _ _ _ nodup, engine, kept]
  case delivery => rw [delivery, State.followStation_eq, State.mapLive_delivery]; rfl
  case link =>
    rw [State.completeAll_link, show ((s.setEntry a e).followStation a).link = s.link from State.mapLive_link _ _]
  case schedule => exact ⟨inner.draft, inner.adopting, inner.pairs⟩
  case rest => exact ⟨inner.port, by rw [State.completeAll_batch, batch], inner.draws, inner.moments, inner.pending⟩

/-! ### The batch item of the station (R131) -/

theorem State.cascadeBatch_of_itemAt {l : BatchList} {r : BatchRun} {c : CurrentItem} (h : s.ItemAt a l r c)
    (o : TxnOutcome) : s.cascadeBatch a o = s.endItem l r c ⟨o, []⟩ := by
  obtain ⟨hb, hc, hi⟩ := h
  obtain ⟨it, hit, hst⟩ := Option.map_eq_some_iff.mp hi
  simp only [State.cascadeBatch, hb, hc, hit, if_pos hst]

theorem State.cascadeBatch_none (h : ∀ l r c, ¬ s.ItemAt a l r c) (o : TxnOutcome) : s.cascadeBatch a o = s := by
  unfold State.cascadeBatch
  cases hb : s.batch.state with
  | empty => rfl
  | loaded l => rfl
  | running l r =>
    cases hc : r.current with
    | none => simp only [hc]
    | some c =>
      cases hi : l.item c.index with
      | none => simp only [hc, hi]
      | some it =>
        have : it.station ≠ a := fun hst => h l r c ⟨hb, hc, by rw [hi, Option.map_some, hst]⟩
        simp only [hc, hi, if_neg this]

/-! ### Reports on an entry (R74, R75) -/

theorem State.stationEvent_eq (s : State) (a : StAddr) (ev : StationEvent) (replaced : Bool) (i : Option Identity) :
    s.stationEvent a ev replaced i =
      s.withDelivery (s.delivery.offerEvent (.station a ev replaced s.port.frameNo i)) := rfl

theorem State.missed_eq_countMiss
    (h : (s.entry a).state = .active ∨ (s.entry a).state = .found ∨ (s.entry a).state = .faulty) :
    s.missed a = s.countMiss a := by
  rcases h with h | h | h <;> simp only [State.missed, h]

/-- An IDENT of a station that is neither ABSENT nor LOST is ignored (R80). -/
theorem State.identified_idle (habsent : (s.entry a).state ≠ .absent) (hlost : (s.entry a).state ≠ .lost) (i : Identity) :
    s.identified a i = s := by
  simp only [State.identified]
  cases hs : (s.entry a).state
  case absent => exact absurd hs habsent
  case lost => exact absurd hs hlost
  all_goals rfl

theorem State.setEntry_setEntry (s : State) (a : StAddr) (e e' : StationEntry) :
    (s.setEntry a e).setEntry a e' = s.setEntry a e' := by
  simp only [State.setEntry, State.withRoster_roster, State.withRoster_twice, Table.set_set]

/-- Settles O58: an IDENT, a HERE, or a miss acts on the entry of the station. -/
theorem slotClosesOnRosterCell : Obligations.SlotClosesOnRosterCell := by
  intro k line s hopen
  refine ⟨fun hpair => ?noPair, fun a tok => ?pair⟩
  case noPair =>
    have pair : (s.closed k).port.pair = none := hpair
    rw [hopen.exec_eq, State.closeMode, pair]
  case pair =>
    intro e offered
    refine ⟨fun hpair => ?roll, fun hpair => ?presence⟩
    case roll =>
      intro j base
      have answered : exec (.slotClose line) s = .next (base.rollAnswered a j) := by
        have counted : s.judged k j false = base := by
          simp [State.judged, base]
          rfl
        rw [← counted]
        exact hopen.exec_reply hpair
      have entry : base.entry a = e := rfl
      refine ⟨fun hidle => ?idle, fun p hj => ?identified⟩
      case idle =>
        rw [answered]
        cases hj : j with
        | bad => rfl
        | silent => rfl
        | good p =>
          obtain ⟨habsent, hlost⟩ := hidle.resolve_left fun h => h p hj
          exact congrArg _ (State.identified_idle (s := base) habsent hlost _)
      case identified =>
        intro i found
        have identified : exec (.slotClose line) s = .next (base.identified a i) := by
          rw [answered, hj]
          rfl
        rw [identified]
        simp only [State.identified, entry]
        refine ⟨fun hs => ?_, fun hs hserial => ?_, fun hs hserial hrejoin => ?_, fun hs hserial hrejoin => ?rejoined⟩
        · simp only [hs]; rfl
        · simp only [hs, if_neg hserial]; rfl
        · simp only [hs, if_pos hserial, hrejoin]; rfl
        case rejoined =>
          simp only [hs, if_pos hserial, if_pos hrejoin]
          have fit : ((base.setEntry a { e with
              state := .active, missCount := 0, sinceHeard := 0, identity := some i }).entry a).state.fit = true := by
            rw [State.entry_setEntry_self]
            rfl
          have inner := base.setEntry_followStation_inner a { e with
            state := .active, missCount := 0, sinceHeard := 0, identity := some i }
          refine ⟨_, rfl, ?_, fun id => ?_, ?_, ?_, ?_, ?_, ?_, ?_, ?_⟩
          · exact State.mapLive_roster _ _
          · exact State.circuit_followStation_fit fit id
          · rw [State.stationEvent_eq, State.withDelivery_delivery, State.followStation_delivery_of_fit fit, inner.port]
            rfl
          · exact inner.port
          · exact State.mapLive_engine _ _
          · exact State.mapLive_batch _ _
          · exact State.mapLive_link _ _
          · exact inner.draft
          · exact inner.adopting
    case presence =>
      intro j base
      have answered : exec (.slotClose line) s = .next (base.report a j) := by
        have counted : s.judged k j true = base := by simp [State.judged, base]
        rw [← counted]
        exact hopen.exec_reply hpair
      have entry : base.entry a = e := rfl
      refine ⟨fun hs => ?gone, fun p hj => ⟨fun hs => ?heard, fun hs => ?recovered⟩, fun hj hs => ?missed⟩
      case gone =>
        rw [answered, State.report_eq]
        have silent : base.missed a = base ∧ base.heard a = base := by
          simp only [State.missed, State.heard, entry]
          rcases hs with hs | hs | hs <;> simp only [hs, and_self]
        rw [silent.1, silent.2, ite_self]
      case heard =>
        rw [answered, hj]
        simp only [State.report, State.heard, entry]
        rcases hs with hs | hs <;> simp only [hs]
      case recovered =>
        rw [answered, hj]
        simp only [State.report, State.heard, entry, hs]
        rfl
      case missed =>
        intro n
        have missed : exec (.slotClose line) s = .next (base.countMiss a) := by
          have miss : j = .bad ∨ j = .silent := by
            cases h : j with
            | good p => exact absurd h (hj p)
            | bad => exact .inl rfl
            | silent => exact .inr rfl
          rw [answered, State.report_eq, if_pos miss, State.missed_eq_countMiss (s := base) hs]
        rw [missed]
        simp only [State.countMiss, entry]
        refine ⟨fun hlt hwhy => ?counts, fun hlt hge hs => ?faulty, fun hge acc law => ?lost⟩
        case counts =>
          have below : ¬ base.cfg.lossLimit ≤ n := Nat.not_le.mpr hlt
          have steady : ¬ (base.cfg.missThreshold ≤ n ∧ e.state = .active) := fun ⟨h, h'⟩ =>
            hwhy.elim (fun hn => Nat.not_le.mpr hn h) fun hn => hn h'
          rw [if_neg below, if_neg steady]
        case faulty =>
          have below : ¬ base.cfg.lossLimit ≤ n := Nat.not_le.mpr hlt
          have turns : base.cfg.missThreshold ≤ n ∧ e.state = .active := ⟨hge, hs⟩
          rw [if_neg below, if_pos turns]
          rfl
        case lost =>
          have above : base.cfg.lossLimit ≤ n := hge
          rw [if_pos above, State.loseStation, State.setEntry_setEntry, State.entry_setEntry_self]
          have acc' : base.Accounting :=
            ⟨acc.hostRes, acc.batchRes, acc.occupancy, acc.records, acc.tags, acc.distinct, acc.shape⟩
          have law' : base.MarkerLaw := law
          have gone := State.stationGone (a := a) acc' law' (e := { e with state := .lost, missCount := n }) rfl rfl
            .stationLost
          set u := (((base.setEntry a { e with state := .lost, missCount := n }).followStation a).cascadeHost a
            .stationLost).1 with hu
          refine ⟨u, u.cascadeBatch a .stationLost, ?_, gone, fun hnone => ?_, fun l r c hitem => ?_⟩
          · have port : (u.cascadeBatch a .stationLost).port = base.port :=
              (State.cascadeBatch_inner u a _).port.trans gone.rest.1
            rw [State.stationEvent_eq, port]
            rfl
          · refine State.cascadeBatch_none (fun l r c => ?_) _
            rw [State.ItemAt, gone.rest.2.1]
            exact hnone l r c
          · refine State.cascadeBatch_of_itemAt ?_ _
            rw [State.ItemAt, gone.rest.2.1]
            exact hitem

end Sys2Proof.Machine
end

section
/-! Frames stopping: the responses one by one, what each leaves, and the state after all of them in any of the allowed orders
(R9, R42, R69, R91, R114, R132, R139, R141, R148). -/

namespace Sys2Proof.Machine

variable {s t : State} {a : StAddr}

/-! ### Records and events put to the delivery queue (R139, R141) -/

/-- The event that an event record carries. -/
def DeliveryRecord.event? : DeliveryRecord → Option EventRecord
  | .data _ _ _ _ => none
  | .done _ _ _ _ => none
  | .pass _ _ _ _ _ => none
  | .event e => some e
  | .overflow _ => none

/-- `d'` comes from `d` by the records `put`, one after another, where a DONE or a PASS record takes the place of its
reservation and an event folds at an occupancy of 128 (R139, R141). -/
structure Offered (d : Delivery) (put : List DeliveryRecord) (d' : Delivery) : Prop where
  records : ∃ new, d'.records = d.records ++ new ∧
    new.filter (fun r => r.doneTag?.isSome) = put.filter (fun r => r.doneTag?.isSome) ∧
    new.Perm (put.filter (fun r => r.event?.isNone) ++
      ((put.filterMap DeliveryRecord.event?).take (128 - d.occupancy)).map .event)
  folded : d'.folded = ((put.filterMap DeliveryRecord.event?).drop (128 - d.occupancy)).foldl (fun f e => f.bump e) d.folded
  occupancy : d'.occupancy = d.occupancy + min (128 - d.occupancy) (put.filterMap DeliveryRecord.event?).length
  credits : d'.credits = d.credits

namespace Offered

variable {d d' d'' : Delivery} {put : List DeliveryRecord}

theorem refl (d : Delivery) : Offered d [] d := ⟨⟨[], by simp⟩, by simp, by simp, rfl⟩

/-- A record that takes the place of its reservation. -/
theorem record {r : DeliveryRecord} (h : Offered d put d') (hr : r.event? = none) (records : d''.records = d'.records ++ [r])
    (folded : d''.folded = d'.folded) (occupancy : d''.occupancy = d'.occupancy) (credits : d''.credits = d'.credits) :
    Offered d (put ++ [r]) d'' := by
  have events : (put ++ [r]).filterMap DeliveryRecord.event? = put.filterMap DeliveryRecord.event? := by
    simp [List.filterMap_append, hr]
  obtain ⟨new, hnew, hdone, hperm⟩ := h.records
  refine ⟨⟨new ++ [r], by rw [records, hnew, List.append_assoc], by rw [List.filter_append, List.filter_append, hdone], ?_⟩,
    by rw [folded, events, h.folded], by rw [occupancy, events, h.occupancy], by rw [credits, h.credits]⟩
  have last : (put ++ [r]).filter (fun r => r.event?.isNone) = put.filter (fun r => r.event?.isNone) ++ [r] := by
    simp [List.filter_append, hr]
  rw [events, last, List.append_assoc]
  exact (hperm.append_right [r]).trans (by rw [List.append_assoc]; exact List.perm_append_comm.append_left _)

/-- An event is appended where the occupancy is below 128, else folded. -/
theorem event (h : Offered d put d') {e : EventRecord} {free : Nat} (he : d'' = { d'.offerEvent e with free := free }) :
    Offered d (put ++ [DeliveryRecord.event e]) d'' := by
  have events : (put ++ [DeliveryRecord.event e]).filterMap DeliveryRecord.event? = put.filterMap DeliveryRecord.event? ++ [e] := by
    simp [List.filterMap_append, DeliveryRecord.event?]
  have others : (put ++ [DeliveryRecord.event e]).filter (fun r => r.event?.isNone) = put.filter (fun r => r.event?.isNone) := by
    simp [List.filter_append, DeliveryRecord.event?]
  have dones : (put ++ [DeliveryRecord.event e]).filter (fun r => r.doneTag?.isSome) = put.filter (fun r => r.doneTag?.isSome) := by
    simp [List.filter_append, DeliveryRecord.doneTag?]
  obtain ⟨new, hnew, hdone, hperm⟩ := h.records
  have hocc := h.occupancy
  generalize hE : put.filterMap DeliveryRecord.event? = E at hperm hocc events
  have hfold := h.folded
  rw [hE] at hfold
  rw [Delivery.offerEvent_eq] at he
  by_cases room : d'.occupancy < 128
  · rw [if_pos room] at he
    have short : E.length < 128 - d.occupancy := by omega
    refine ⟨⟨new ++ [.event e], by rw [he, hnew, List.append_assoc], ?_, ?_⟩, ?_, ?_, by rw [he, h.credits]⟩
    · rw [dones, List.filter_append, hdone]
      simp [DeliveryRecord.doneTag?]
    · rw [others, events, List.take_of_length_le (by simp; omega), List.map_append, ← List.append_assoc]
      rw [List.take_of_length_le (by omega)] at hperm
      exact hperm.append_right _
    · rw [he, events, List.drop_of_length_le (by simp; omega)]
      rw [List.drop_of_length_le (by omega)] at hfold
      exact hfold
    · have : d''.occupancy = d'.occupancy + 1 := by
        rw [he]
        simp [Delivery.occupancy]
        omega
      rw [this, hocc, events, List.length_append, List.length_singleton]
      omega
  · rw [if_neg room] at he
    have long : 128 - d.occupancy ≤ E.length := by omega
    refine ⟨⟨new, by rw [he, hnew], by rw [dones, hdone], ?_⟩, ?_, ?_, by rw [he, h.credits]⟩
    · rw [others, events, List.take_append_of_le_length long]
      exact hperm
    · rw [he, events, List.drop_append_of_le_length long, List.foldl_append, ← hfold]
      rfl
    · have : d''.occupancy = d'.occupancy := by rw [he]; rfl
      rw [this, hocc, events, List.length_append, List.length_singleton]
      omega

/-- The records of frames stopping, in the words of R9, R141 and R148. -/
theorem stopRecords {dones passes : List DeliveryRecord} {k : TrunkState} {f : FrameNo} {fault : Option FaultPos}
    {closed : List CircuitId} {pending : Bool} (h : Offered d put d')
    (hdone : put.filter (fun r => r.doneTag?.isSome) = dones) (hplain : ∀ r ∈ dones ++ passes, r.event? = none)
    (hput : put.Perm (dones ++ passes ++
      .event (.trunk k f fault) :: if pending then [.event (.schedule f closed)] else [])) :
    ∃ new, d'.records = d.records ++ new ∧ StopRecords d dones passes
      (.event (.trunk k f fault) :: if pending then [.event (.schedule f closed)] else []) new d'.folded := by
  obtain ⟨new, hnew, hfilter, hperm⟩ := h.records
  have plain : (dones ++ passes).filterMap DeliveryRecord.event? = [] :=
    List.filterMap_eq_nil_iff.mpr hplain
  have kept : (dones ++ passes).filter (fun r => r.event?.isNone) = dones ++ passes :=
    List.filter_eq_self.mpr fun r hr => by rw [hplain r hr]; rfl
  have others : (put.filter fun r => r.event?.isNone).Perm (dones ++ passes) := by
    refine (hput.filter _).trans (.of_eq ?_)
    rw [List.filter_append, kept]
    cases pending <;> simp [DeliveryRecord.event?]
  have events : (put.filterMap DeliveryRecord.event?).Perm
      (.trunk k f fault :: if pending then [.schedule f closed] else []) := by
    refine (hput.filterMap _).trans (.of_eq ?_)
    rw [List.filterMap_append, plain]
    cases pending <;> rfl
  have hfold := h.folded
  generalize put.filterMap DeliveryRecord.event? = E at hperm events hfold
  refine ⟨new, hnew, hfilter.trans hdone, fun hroom => ?room, fun hfull => ?full, fun hone => ?one⟩
  case room =>
    have hlen := events.length_eq
    change d.occupancy + _ ≤ 128 at hroom
    have le : E.length ≤ 128 - d.occupancy := by
      rw [hlen]
      cases pending <;> simp at hroom ⊢ <;> omega
    rw [List.take_of_length_le le] at hperm
    rw [List.drop_of_length_le le] at hfold
    refine ⟨hperm.trans ((others.append (events.map _)).trans (.of_eq ?_)), hfold⟩
    cases pending <;> rfl
  case full =>
    change 128 ≤ d.occupancy at hfull
    rw [Nat.sub_eq_zero_of_le hfull] at hperm hfold
    rw [List.take_zero, List.map_nil, List.append_nil] at hperm
    rw [List.drop_zero] at hfold
    refine ⟨hperm.trans others, ?_⟩
    rw [hfold]
    cases pending with
    | false =>
      rw [List.perm_singleton.mp events]
      rfl
    | true => rcases List.perm_pair.mp events with hE | hE <;> rw [hE] <;> rfl
  case one =>
    change d.occupancy + 1 = 128 at hone
    rw [show 128 - d.occupancy = 1 by omega] at hperm hfold
    intro trunk schedule hev
    cases pending with
    | false => cases hev
    | true =>
      obtain ⟨htrunk, hrest⟩ := List.cons.inj hev
      obtain ⟨hschedule, -⟩ := List.cons.inj hrest
      subst htrunk hschedule
      rcases List.perm_pair.mp events with hE | hE
      · rw [hE] at hperm hfold
        exact .inl ⟨hperm.trans (others.append_right _), hfold⟩
      · rw [hE] at hperm hfold
        exact .inr ⟨hperm.trans (others.append_right _), hfold⟩

end Offered

/-! ### What no response changes -/

/-- `t` comes from `s` by responses to frames stopping: the port, the stations but their markers, the draft, the preset, the
credits and the host link but its tags are as they were, and buffers are only exchanged with the pool. -/
structure StopKeeps (s t : State) : Prop where
  port : t.port = s.port
  entry : ∀ a, t.entry a = { s.entry a with marker := (t.entry a).marker }
  rollCursor : t.roster.rollCursor = s.roster.rollCursor
  presenceCursor : t.roster.presenceCursor = s.roster.presenceCursor
  engine : t.engine = { s.engine with queue := t.engine.queue }
  draft : t.sched.draft = s.sched.draft
  pool : t.delivery.free + t.circuitsHeld = s.delivery.free + s.circuitsHeld
  preset : t.batch.preset = s.batch.preset
  link : t.link = { s.link with tags := t.link.tags }

namespace StopKeeps

variable {u : State}

theorem refl (s : State) : StopKeeps s s := ⟨rfl, fun _ => rfl, rfl, rfl, rfl, rfl, rfl, rfl, rfl⟩

theorem trans (h : StopKeeps s t) (h' : StopKeeps t u) : StopKeeps s u where
  port := h'.port.trans h.port
  entry a := by rw [h'.entry a, h.entry a]
  rollCursor := h'.rollCursor.trans h.rollCursor
  presenceCursor := h'.presenceCursor.trans h.presenceCursor
  engine := by rw [h'.engine, h.engine]
  draft := h'.draft.trans h.draft
  pool := h'.pool.trans h.pool
  preset := h'.preset.trans h.preset
  link := by rw [h'.link, h.link]

/-- A station that is fit stays so. -/
theorem fit (h : StopKeeps s t) (a : StAddr) :
    (t.roster.entries.get a).state.fit = (s.roster.entries.get a).state.fit := by
  have entry : t.entry a = _ := h.entry a
  rw [State.entry, State.entry] at entry
  rw [entry]

end StopKeeps

theorem State.completeHost_stopKeeps (r : HostRecord) (o : TxnOutcome) (reason : Byte) (data : List Byte) :
    StopKeeps s (s.completeHost r o reason data) where
  port := s.completeHost_port r o reason data
  entry a := by
    rw [State.completeHost_entry]
    split <;> rfl
  rollCursor := s.completeHost_rollCursor r o reason data
  presenceCursor := s.completeHost_presenceCursor r o reason data
  engine := by rw [State.completeHost_engine]
  draft := by rw [State.completeHost_sched]
  pool := by
    rw [State.completeHost_delivery, State.circuitsHeld_congr (s.completeHost_sched r o reason data)]
    rfl
  preset := by rw [State.completeHost_batch]
  link := by rw [State.completeHost_link]

theorem State.offerEvent_stopKeeps (e : EventRecord) : StopKeeps s (s.offerEvent e) where
  port := rfl
  entry _ := rfl
  rollCursor := rfl
  presenceCursor := rfl
  engine := rfl
  draft := rfl
  pool := by rw [State.offerEvent_delivery, Delivery.offerEvent_free, State.circuitsHeld_congr (s.offerEvent_sched e)]
  preset := rfl
  link := rfl

theorem State.adoptWithRecord_stopKeeps (s : State) : StopKeeps s s.adoptWithRecord where
  port := s.adoptWithRecord_port
  entry a := by rw [State.entry, s.adoptWithRecord_roster]; rfl
  rollCursor := by rw [s.adoptWithRecord_roster]
  presenceCursor := by rw [s.adoptWithRecord_roster]
  engine := by rw [s.adoptWithRecord_engine]
  draft := by rw [s.adoptWithRecord_sched, State.carryOutAdoption_draft]
  pool := by
    rw [s.adoptWithRecord_free, State.circuitsHeld_congr s.adoptWithRecord_sched]
    exact s.carryOutAdoption_balance
  preset := by rw [s.adoptWithRecord_batch]
  link := by rw [s.adoptWithRecord_link]

/-! ### The batch run at frames stopping (R128, R130, R132) -/

/-- The batch unit's state after frames stopped with an end cause: a waiting pass has its end decided, a pass in progress
has ended its run (R132). -/
def BatchState.stopped (cause : EndCause) : BatchState → BatchState
  | .empty => .empty
  | .loaded l => .loaded l
  | .running l r => if r.waiting then .running l { r with decided := some (r.decided.getD cause) } else .loaded l

/-- The marker of an issued item's station is cleared as the item ends (R128). -/
def State.clearItem (l : BatchList) (c : CurrentItem) (s : State) : State :=
  match l.item c.index with
  | some it => if c.attempt.wasIssued then s.setMarker it.station none else s
  | none => s

section
variable {l : BatchList} {r : BatchRun} {c : CurrentItem}

/-- The current item is in progress to station `a` (R73). -/
def CurrentItem.Marks (l : BatchList) (a : StAddr) (c : CurrentItem) : Prop :=
  ∃ it, l.item c.index = some it ∧ it.station = a ∧ c.attempt.wasIssued = true

theorem State.endItem_eq (s : State) (l : BatchList) (r : BatchRun) (c : CurrentItem) (o : ItemOutcome) :
    s.endItem l r c o = (s.clearItem l c).continueRun l r (afterItem l r (s.clearItem l c).roster.entries c.index o.outcome
      (r.outcomes.set (c.index - 1) (some o))) := rfl

theorem State.clearItem_eq (s : State) (l : BatchList) (c : CurrentItem) :
    s.clearItem l c = s.withRoster (s.clearItem l c).roster := by
  unfold State.clearItem
  split
  · split <;> rfl
  · rfl

theorem State.clearItem_cursors (s : State) (l : BatchList) (c : CurrentItem) :
    (s.clearItem l c).roster.rollCursor = s.roster.rollCursor ∧
      (s.clearItem l c).roster.presenceCursor = s.roster.presenceCursor := by
  unfold State.clearItem
  split
  · split <;> exact ⟨rfl, rfl⟩
  · exact ⟨rfl, rfl⟩

open Classical in
theorem State.clearItem_entry (s : State) (l : BatchList) (c : CurrentItem) (a : StAddr) :
    (s.clearItem l c).entry a = if c.Marks l a then { s.entry a with marker := none } else s.entry a := by
  unfold State.clearItem CurrentItem.Marks
  cases hi : l.item c.index with
  | none => simp
  | some it =>
    cases hw : c.attempt.wasIssued with
    | false => simp
    | true =>
      simp only [if_true, State.entry_setMarker, Option.some.injEq, exists_eq_left', and_true]
      by_cases ha : it.station = a
      · subst ha; simp
      · simp [ha]

open Classical in
theorem BatchState.outstanding_running (hc : r.current = some c) :
    (BatchState.running l r).outstanding a = if c.Marks l a then [⟨.batch, r.tag⟩] else [] := by
  unfold BatchState.outstanding CurrentItem.Marks
  cases hi : l.item c.index with
  | none => simp [hc, hi]
  | some it => simp [hc, hi]

theorem State.stopBatch_waiting (cause : StopCause) (hb : s.batch.state = .running l r) (hw : r.waiting = true) :
    s.stopBatch cause.outcome cause.endCause = { s with
      batch.state := .running l { r with decided := some (r.decided.getD cause.endCause) } } := by
  have decides : s.stopBatch cause.outcome cause.endCause = match r.decided with
      | some _ => s
      | none => s.setBatch (.running l { r with decided := some cause.endCause }) := by
    simp only [State.stopBatch, hb]
    exact if_pos hw
  rw [decides]
  cases hd : r.decided with
  | none => rfl
  | some d =>
    have same : ({ r with decided := some d } : BatchRun) = r := by rw [← hd]
    change s = { s with batch.state := .running l { r with decided := some d } }
    rw [same, ← hb]

/-- The current item takes the outcome, and the pass ends its run (R128, R130, R132). -/
theorem State.stopBatch_inPass (cause : StopCause) (hb : s.batch.state = .running l r) (hw : r.waiting = false)
    (hc : r.current = some c) : s.stopBatch cause.outcome cause.endCause = { s with
      roster := (s.clearItem l c).roster
      batch.state := .loaded l
      delivery := s.delivery.appendPass r.tag r.pass true cause.endCause
        ((r.outcomes.set (c.index - 1) (some ⟨cause.outcome, []⟩)).map fun x => x.getD ⟨.notRun, []⟩)
      link.tags := s.link.tags.erase r.tag } := by
  have after : ∀ entries oc, afterItem l r entries c.index cause.outcome oc = .ended cause.endCause oc := by
    intro entries oc
    cases cause <;> rfl
  have final : finalPass cause.endCause r = true := by cases cause <;> rfl
  simp only [State.stopBatch, hb, hw, hc, State.endItem_eq, after, State.continueRun, State.holdProgress, State.endPass,
    final]
  rw [State.clearItem_eq]
  rfl

end

theorem State.stopBatch_idle (o : TxnOutcome) (cause : EndCause) (h : s.batch.state = .empty ∨ ∃ l, s.batch.state = .loaded l) :
    s.stopBatch o cause = s := by
  rcases h with h | ⟨l, h⟩ <;> simp only [State.stopBatch, h]

/-- What the end of the batch run leaves as it is. -/
theorem State.stopBatch_stopKeeps (cause : StopCause) (hshape : s.batch.state.shape) :
    StopKeeps s (s.stopBatch cause.outcome cause.endCause) := by
  have idle : s.batch.state = .empty ∨ (∃ l, s.batch.state = .loaded l) →
      StopKeeps s (s.stopBatch cause.outcome cause.endCause) := fun h => by
    rw [State.stopBatch_idle _ _ h]
    exact .refl s
  cases hb : s.batch.state with
  | empty => exact idle (.inl hb)
  | loaded l => exact idle (.inr ⟨l, hb⟩)
  | running l r =>
    rw [hb] at hshape
    cases hw : r.waiting with
    | true =>
      rw [State.stopBatch_waiting cause hb hw]
      exact ⟨rfl, fun _ => rfl, rfl, rfl, rfl, rfl, rfl, rfl, rfl⟩
    | false =>
      obtain ⟨c, hc⟩ := Option.isSome_iff_exists.mp (hshape.2.1 hw).1
      obtain ⟨hroll, hpresence⟩ := s.clearItem_cursors l c
      rw [State.stopBatch_inPass cause hb hw hc]
      refine ⟨rfl, fun a => ?_, hroll, hpresence, rfl, rfl, rfl, rfl, rfl⟩
      have cleared := s.clearItem_entry l c a
      change (s.clearItem l c).entry a = { s.entry a with marker := ((s.clearItem l c).entry a).marker }
      rw [cleared]
      split <;> rfl

/-! ### The marker law at each response (R73) -/

/-- The oldest host record completes. -/
theorem State.MarkerLaw.completeHost {r : HostRecord} {rest : List HostRecord} (h : s.MarkerLaw)
    (hq : s.engine.queue = r :: rest) (o : TxnOutcome) (reason : Byte) (data : List Byte) :
    (s.completeHost r o reason data).MarkerLaw := by
  intro a
  have law := h a
  have queue : (s.completeHost r o reason data).engine.queue = rest := by
    rw [State.completeHost_queue, hq, List.eraseP_cons_of_pos (by simp)]
  rw [State.hostOutstanding, hq] at law
  rw [State.hostOutstanding, queue, State.completeHost_batch, State.completeHost_entry]
  by_cases hm : r.marking a = true
  · obtain ⟨hs, hi⟩ := HostRecord.marking_iff.mp hm
    rw [if_pos ⟨hi, hs⟩]
    rw [List.filter_cons_of_pos hm, List.map_cons, List.cons_append] at law
    cases hma : (s.entry a).marker with
    | none => rw [hma] at law; cases law
    | some m =>
      rw [hma] at law
      exact (List.cons.inj law).2
  · have away : ¬ (r.attempt.wasIssued = true ∧ r.request.station = a) := fun ⟨hi, hs⟩ =>
      hm (HostRecord.marking_iff.mpr ⟨hs, hi⟩)
    rw [if_neg away]
    rwa [List.filter_cons_of_neg hm] at law

/-- The batch run ends, or its end is decided. -/
theorem State.MarkerLaw.stopBatch (h : s.MarkerLaw) (cause : StopCause) (hshape : s.batch.state.shape) :
    (s.stopBatch cause.outcome cause.endCause).MarkerLaw := by
  have idle : s.batch.state = .empty ∨ (∃ l, s.batch.state = .loaded l) →
      (s.stopBatch cause.outcome cause.endCause).MarkerLaw := fun hi => by
    rw [State.stopBatch_idle _ _ hi]
    exact h
  cases hb : s.batch.state with
  | empty => exact idle (.inl hb)
  | loaded l => exact idle (.inr ⟨l, hb⟩)
  | running l r =>
    rw [hb] at hshape
    cases hw : r.waiting with
    | true =>
      rw [State.stopBatch_waiting cause hb hw]
      intro a
      have law := h a
      rw [hb] at law
      exact law
    | false =>
      obtain ⟨c, hc⟩ := Option.isSome_iff_exists.mp (hshape.2.1 hw).1
      rw [State.stopBatch_inPass cause hb hw hc]
      intro a
      have law := h a
      rw [hb, BatchState.outstanding_running hc] at law
      have cleared := s.clearItem_entry l c a
      change s.hostOutstanding a ++ [] = ((s.clearItem l c).entry a).marker.toList
      rw [cleared, List.append_nil]
      by_cases hm : c.Marks l a
      · rw [if_pos hm] at law ⊢
        have : (s.hostOutstanding a ++ [(⟨.batch, r.tag⟩ : Marker)]).length ≤ 1 := by
          rw [law]
          cases (s.entry a).marker <;> simp
        rw [List.length_append, List.length_singleton] at this
        exact List.length_eq_zero_iff.mp (by omega)
      · rw [if_neg hm] at law ⊢
        rwa [List.append_nil] at law

/-! ### All the responses, in any order -/

/-- The host records that responses complete, in their order. -/
def stepRecords (steps : List StopStep) : List HostRecord :=
  steps.filterMap fun step => match step with
    | .complete r => some r
    | .trunkRecord => none
    | .adoption => none
    | .batchEnd => none

/-- The records that a response puts to the delivery queue, from the state `b` in which the responses begin. -/
def StopStep.puts (cause : StopCause) (b : State) : StopStep → List DeliveryRecord
  | .trunkRecord => [.event (.trunk cause.trunk b.port.frameNo cause.fault)]
  | .adoption => if b.sched.adoptPending then [.event (.schedule b.port.frameNo b.closedIds)] else []
  | .batchEnd => b.batch.state.finalPass cause.outcome cause.endCause
  | .complete r => [.done r.tag cause.outcome 0 []]

/-- The state `u` after the responses `done`, begun in `b`, with the responses `rest` still to come. -/
structure Stopping (cause : StopCause) (b : State) (done rest : List StopStep) (u : State) : Prop extends StopKeeps b u where
  nodup : rest.Nodup
  queue : u.engine.queue = stepRecords rest
  hostRes : u.delivery.hostRes = u.engine.queue.length
  batchRes : u.delivery.batchRes = u.batch.state.inPass
  tags : u.link.tags.Perm (u.engine.queue.map HostRecord.tag ++ u.batch.state.tags)
  markers : u.MarkerLaw
  batch : u.batch.state = if .batchEnd ∈ rest then b.batch.state else b.batch.state.stopped cause.endCause
  sched : u.sched = if .adoption ∈ rest ∨ b.sched.adoptPending = false then b.sched else b.carryOutAdoption.sched
  offered : Offered b.delivery (done.flatMap (StopStep.puts cause b)) u.delivery

/-- The schedule block after an adoption depends on the schedule block and on which stations are fit (R51). -/
theorem State.carryOutAdoption_sched_congr (hs : s.sched = t.sched)
    (hf : ∀ a, (s.roster.entries.get a).state.fit = (t.roster.entries.get a).state.fit) :
    s.carryOutAdoption.sched = t.carryOutAdoption.sched := by
  have runs : ∀ d : CircuitDef, d.newRunState s.roster.entries = d.newRunState t.roster.entries := by
    intro d
    unfold CircuitDef.newRunState
    cases d.station? with
    | none => rfl
    | some a => simp only [hf a]
  have ids : adoptId s.roster.entries = adoptId t.roster.entries := by
    funext old new
    unfold adoptId CircuitDef.makeNew
    simp only [runs]
  have table : s.adoptedTable = t.adoptedTable := by
    rw [State.adoptedTable, State.adoptedTable, ids, State.liveTable_congr hs, hs]
  rw [State.carryOutAdoption, State.carryOutAdoption, State.withSched_sched, State.withSched_sched, table, hs]

theorem State.closedIds_congr (hs : s.sched = t.sched) : s.closedIds = t.closedIds := by
  rw [State.closedIds, State.closedIds, State.liveTable_congr hs, hs]

namespace Stopping

variable {cause : StopCause} {b u : State} {done rest : List StopStep}

theorem complete {r : HostRecord} (h : Stopping cause b done (.complete r :: rest) u) :
    Stopping cause b (done ++ [.complete r]) rest (u.completeHost r cause.outcome 0 []) := by
  have queue : u.engine.queue = r :: stepRecords rest := h.queue
  have left : (u.completeHost r cause.outcome 0 []).engine.queue = stepRecords rest := by
    rw [State.completeHost_queue, queue, List.eraseP_cons_of_pos (by simp)]
  have hostRes : u.delivery.hostRes = (stepRecords rest).length + 1 := by rw [h.hostRes, queue, List.length_cons]
  refine
    { toStopKeeps := h.toStopKeeps.trans (State.completeHost_stopKeeps _ _ _ _)
      nodup := h.nodup.of_cons
      queue := left
      hostRes := ?_, batchRes := ?_, tags := ?_
      markers := h.markers.completeHost queue _ _ _
      batch := ?_, sched := ?_, offered := ?_ }
  · rw [State.completeHost_delivery, Delivery.appendDone_hostRes, hostRes, left, Nat.add_sub_cancel]
  · rw [State.completeHost_delivery, Delivery.appendDone_batchRes, State.completeHost_batch, h.batchRes]
  · have tags := h.tags.erase r.tag
    rw [queue, List.map_cons, List.cons_append, List.erase_cons_head] at tags
    rw [left, State.completeHost_link, State.completeHost_batch]
    exact tags
  · rw [State.completeHost_batch, h.batch]
    simp
  · rw [State.completeHost_sched, h.sched]
    simp
  · rw [List.flatMap_append, State.completeHost_delivery]
    exact h.offered.record rfl rfl rfl (Delivery.appendDone_occupancy _ _ _ _ _ (by omega)) rfl

theorem trunkRecord (h : Stopping cause b done (.trunkRecord :: rest) u) :
    Stopping cause b (done ++ [.trunkRecord]) rest (u.trunkRecord cause) where
  toStopKeeps := h.toStopKeeps.trans (State.offerEvent_stopKeeps _)
  nodup := h.nodup.of_cons
  queue := h.queue
  hostRes := by
    rw [State.trunkRecord, State.offerEvent_delivery, Delivery.offerEvent_hostRes, h.hostRes, State.offerEvent_engine]
  batchRes := by
    rw [State.trunkRecord, State.offerEvent_delivery, Delivery.offerEvent_batchRes, h.batchRes, State.offerEvent_batch]
  tags := h.tags
  markers := h.markers
  batch := by
    rw [State.trunkRecord, State.offerEvent_batch, h.batch]
    simp
  sched := by
    rw [State.trunkRecord, State.offerEvent_sched, h.sched]
    simp
  offered := by
    rw [List.flatMap_append]
    refine h.offered.event (free := (u.trunkRecord cause).delivery.free) ?_
    rw [State.trunkRecord, State.offerEvent_delivery, State.frame_eq, h.port]

theorem adoption (h : Stopping cause b done (.adoption :: rest) u) :
    Stopping cause b (done ++ [.adoption]) rest u.adoptAtStop := by
  have gone : StopStep.adoption ∉ rest := (List.nodup_cons.mp h.nodup).1
  have sched : u.sched = b.sched := by rw [h.sched, if_pos (.inl List.mem_cons_self)]
  rw [State.adoptAtStop, sched]
  by_cases hp : b.sched.adoptPending = true
  · rw [if_pos hp]
    obtain ⟨free, delivery⟩ : ∃ free, u.adoptWithRecord.delivery =
        { u.delivery.offerEvent (.schedule b.port.frameNo b.closedIds) with free := free } := by
      refine ⟨u.carryOutAdoption.delivery.free, ?_⟩
      rw [State.adoptWithRecord_delivery, Delivery.offerEvent_eq, h.port, State.closedIds_congr sched]
      generalize u.carryOutAdoption.delivery.free = free
      split <;> rfl
    refine
      { toStopKeeps := h.toStopKeeps.trans u.adoptWithRecord_stopKeeps
        nodup := h.nodup.of_cons
        queue := ?_, hostRes := ?_, batchRes := ?_, tags := ?_, markers := ?_, batch := ?_, sched := ?_, offered := ?_ }
    · rw [u.adoptWithRecord_engine]; exact h.queue
    · rw [delivery, u.adoptWithRecord_engine]
      exact (Delivery.offerEvent_hostRes _ _).trans h.hostRes
    · rw [delivery, u.adoptWithRecord_batch]
      exact (Delivery.offerEvent_batchRes _ _).trans h.batchRes
    · rw [u.adoptWithRecord_link, u.adoptWithRecord_engine, u.adoptWithRecord_batch]; exact h.tags
    · intro a
      rw [State.hostOutstanding, u.adoptWithRecord_engine, u.adoptWithRecord_batch, State.entry, u.adoptWithRecord_roster]
      exact h.markers a
    · rw [u.adoptWithRecord_batch, h.batch]
      simp
    · rw [u.adoptWithRecord_sched, State.carryOutAdoption_sched_congr sched h.fit, if_neg (by simp [gone, hp])]
    · rw [List.flatMap_append]
      simp only [List.flatMap_singleton, StopStep.puts, if_pos hp]
      exact h.offered.event delivery
  · rw [if_neg hp]
    have none : b.sched.adoptPending = false := by simpa using hp
    refine
      { toStopKeeps := h.toStopKeeps
        nodup := h.nodup.of_cons
        queue := h.queue, hostRes := h.hostRes, batchRes := h.batchRes, tags := h.tags, markers := h.markers
        batch := ?_, sched := ?_, offered := ?_ }
    · rw [h.batch]
      simp
    · rw [sched, if_pos (.inr none)]
    · rw [List.flatMap_append]
      simp only [List.flatMap_singleton, StopStep.puts, if_neg hp, List.append_nil]
      exact h.offered

theorem batchEnd (hshape : b.batch.state.shape) (h : Stopping cause b done (.batchEnd :: rest) u) :
    Stopping cause b (done ++ [.batchEnd]) rest (u.stopBatch cause.outcome cause.endCause) := by
  have gone : StopStep.batchEnd ∉ rest := (List.nodup_cons.mp h.nodup).1
  have state : u.batch.state = b.batch.state := by rw [h.batch, if_pos List.mem_cons_self]
  have keeps := h.toStopKeeps.trans (State.stopBatch_stopKeeps cause (by rw [state]; exact hshape))
  have markers := h.markers.stopBatch cause (by rw [state]; exact hshape)
  have sched : u.sched = _ := h.sched
  have puts : (done ++ [StopStep.batchEnd]).flatMap (StopStep.puts cause b) =
      done.flatMap (StopStep.puts cause b) ++ u.batch.state.finalPass cause.outcome cause.endCause := by
    rw [List.flatMap_append, state]
    simp [StopStep.puts]
  have idle : u.batch.state = .empty ∨ (∃ l, u.batch.state = .loaded l) →
      Stopping cause b (done ++ [.batchEnd]) rest (u.stopBatch cause.outcome cause.endCause) := by
    intro hi
    rw [State.stopBatch_idle _ _ hi]
    refine
      { toStopKeeps := h.toStopKeeps
        nodup := h.nodup.of_cons
        queue := h.queue, hostRes := h.hostRes, batchRes := h.batchRes, tags := h.tags, markers := h.markers
        batch := ?_, sched := ?_, offered := ?_ }
    · rw [if_neg gone, ← state]
      rcases hi with hi | ⟨l, hi⟩ <;> rw [hi] <;> rfl
    · rw [sched]
      simp
    · rw [puts]
      rcases hi with hi | ⟨l, hi⟩ <;> rw [hi] <;> simpa [BatchState.finalPass] using h.offered
  cases hb : u.batch.state with
  | empty => exact idle (.inl hb)
  | loaded l => exact idle (.inr ⟨l, hb⟩)
  | running l r =>
    rw [hb] at state
    rw [← state] at hshape
    cases hw : r.waiting with
    | true =>
      have nothing : (BatchState.running l r).finalPass cause.outcome cause.endCause = [] := by
        simp [BatchState.finalPass, hw]
      rw [hb, nothing, List.append_nil] at puts
      rw [State.stopBatch_waiting cause hb hw] at keeps markers ⊢
      refine
        { toStopKeeps := keeps
          nodup := h.nodup.of_cons
          queue := h.queue, hostRes := h.hostRes, batchRes := ?_, tags := ?_, markers := markers
          batch := ?_, sched := ?_, offered := ?_ }
      · exact h.batchRes.trans (by rw [hb]; rfl)
      · have tags := h.tags
        rw [hb] at tags
        exact tags
      · rw [if_neg gone, ← state, BatchState.stopped, if_pos hw]
      · exact sched.trans (by simp)
      · rw [puts]
        exact h.offered
    | false =>
      obtain ⟨c, hc⟩ := Option.isSome_iff_exists.mp (hshape.2.1 hw).1
      have held : u.delivery.batchRes = true := by rw [h.batchRes, hb, BatchState.inPass, hw]; rfl
      rw [State.stopBatch_inPass cause hb hw hc] at keeps markers ⊢
      refine
        { toStopKeeps := keeps
          nodup := h.nodup.of_cons
          queue := h.queue, hostRes := h.hostRes, batchRes := rfl, tags := ?_, markers := markers
          batch := ?_, sched := ?_, offered := ?_ }
      · have tags := (h.tags.trans List.perm_append_comm).erase r.tag
        rw [hb, BatchState.tags, List.singleton_append, List.erase_cons_head] at tags
        exact tags.trans (.of_eq (List.append_nil _).symm)
      · rw [if_neg gone, ← state, BatchState.stopped, hw]
        rfl
      · exact sched.trans (by simp)
      · rw [puts, hb]
        simp only [BatchState.finalPass, hw, hc]
        exact h.offered.record rfl rfl rfl (Delivery.appendPass_occupancy _ _ _ _ _ _ held) rfl

/-- One response after another. -/
theorem steps (hshape : b.batch.state.shape) (h : Stopping cause b done rest u) :
    Stopping cause b (done ++ rest) [] (u.stopSteps cause rest) := by
  induction rest generalizing done u with
  | nil => rwa [List.append_nil]
  | cons step rest ih =>
    have next : Stopping cause b (done ++ [step]) rest (u.stopStep cause step) := by
      cases step with
      | trunkRecord => exact h.trunkRecord
      | adoption => exact h.adoption
      | batchEnd => exact h.batchEnd hshape
      | complete r => exact h.complete
    have all := ih next
    rwa [List.append_assoc, List.singleton_append] at all

end Stopping

end Sys2Proof.Machine
end

section
/-! Frames stopping by STOP and by HALT: the whole effect, whatever the order of the responses (R9, R20, R42, R69, R70, R91,
R114, R132, R148). -/

namespace Sys2Proof.Machine

variable {s t : State} {a : StAddr}

/-! ### The order of the responses (R114) -/

/-- A response that completes no record leaves the order of the completions alone. -/
theorem stepRecords_insertAt {step : StopStep} (h : stepRecords [step] = []) (k : Nat) (steps : List StopStep) :
    stepRecords (insertAt k step steps) = stepRecords steps := by
  have split : ∀ xs ys, stepRecords (xs ++ ys) = stepRecords xs ++ stepRecords ys := fun _ _ => List.filterMap_append
  rw [insertAt, ← List.singleton_append, split, split, h, List.nil_append, ← split, List.take_append_drop]

theorem stepRecords_complete (queue : List HostRecord) : stepRecords (queue.map .complete) = queue := by
  rw [stepRecords, List.filterMap_map]
  exact List.filterMap_some

/-- The completions keep acceptance order. -/
theorem stepRecords_stopOrder (draw : Nat) (queue : List HostRecord) : stepRecords (stopOrder draw queue) = queue := by
  simp only [stopOrder]
  rw [stepRecords_insertAt rfl, stepRecords_insertAt rfl, stepRecords_insertAt rfl, stepRecords_complete]

theorem stopOrder_nodup (draw : Nat) {queue : List HostRecord} (h : queue.Nodup) : (stopOrder draw queue).Nodup := by
  have inj : Function.Injective StopStep.complete := fun _ _ h => StopStep.complete.inj h
  rw [(stopOrder_perm draw queue).nodup_iff]
  simp [List.nodup_map_iff inj, h]

/-! ### The records that the responses put (R114, R132, R148) -/

section
variable (cause : StopCause) (b : State)

/-- Of the records that a response puts, the DONE records are those of the completions. -/
theorem StopStep.puts_done (step : StopStep) : (step.puts cause b).filter (fun r => r.doneTag?.isSome) =
    (stepRecords [step]).map fun r => .done r.tag cause.outcome 0 [] := by
  cases step with
  | trunkRecord => rfl
  | adoption => cases hp : b.sched.adoptPending <;> simp [StopStep.puts, hp, stepRecords, DeliveryRecord.doneTag?]
  | complete r => rfl
  | batchEnd =>
    simp only [StopStep.puts, stepRecords, List.filterMap_cons, List.filterMap_nil, List.map_nil, List.filter_eq_nil_iff]
    intro r hr
    cases hb : b.batch.state with
    | empty => rw [hb] at hr; cases hr
    | loaded l => rw [hb] at hr; cases hr
    | running l run =>
      rw [hb] at hr
      simp only [BatchState.finalPass] at hr
      split at hr
      · rw [List.mem_singleton.mp hr]
        simp [DeliveryRecord.doneTag?]
      · cases hr
      · cases hr

theorem puts_filter_done (steps : List StopStep) :
    (steps.flatMap (StopStep.puts cause b)).filter (fun r => r.doneTag?.isSome) =
      (stepRecords steps).map fun r => .done r.tag cause.outcome 0 [] := by
  induction steps with
  | nil => rfl
  | cons step rest ih =>
    have split : stepRecords (step :: rest) = stepRecords [step] ++ stepRecords rest :=
      List.filterMap_append (l := [step])
    rw [List.flatMap_cons, List.filter_append, StopStep.puts_done, ih, split, List.map_append]

/-- The PASS record of the run that ends is no event and no DONE record. -/
theorem BatchState.event?_of_mem_finalPass {state : BatchState} {o : TxnOutcome} {e : EndCause} {r : DeliveryRecord}
    (h : r ∈ state.finalPass o e) : r.event? = none := by
  unfold BatchState.finalPass at h
  split at h
  · cases h
  · cases h
  · split at h
    · rw [List.mem_singleton.mp h]; rfl
    · cases h
    · cases h

/-- The records that all the responses put, but for their order. -/
theorem puts_perm {steps : List StopStep} {queue : List HostRecord}
    (h : steps.Perm (.batchEnd :: .adoption :: .trunkRecord :: queue.map .complete)) :
    (steps.flatMap (StopStep.puts cause b)).Perm
      ((queue.map fun r => .done r.tag cause.outcome 0 []) ++ b.batch.state.finalPass cause.outcome cause.endCause ++
        .event (.trunk cause.trunk b.port.frameNo cause.fault) ::
          if b.sched.adoptPending then [.event (.schedule b.port.frameNo b.closedIds)] else []) := by
  have dones : (queue.map StopStep.complete).flatMap (StopStep.puts cause b) =
      queue.map fun r => .done r.tag cause.outcome 0 [] := by
    rw [List.flatMap_map]
    exact List.flatMap_pure_eq_map _ _
  refine (h.flatMap_right _).trans ?_
  simp only [List.flatMap_cons, dones]
  generalize (queue.map fun r => DeliveryRecord.done r.tag cause.outcome 0 []) = done
  simp only [StopStep.puts]
  generalize b.batch.state.finalPass cause.outcome cause.endCause = pass
  generalize (if b.sched.adoptPending = true then [DeliveryRecord.event (.schedule b.port.frameNo b.closedIds)] else [])
    = sched
  generalize DeliveryRecord.event (.trunk cause.trunk b.port.frameNo cause.fault) = trunk
  calc pass ++ (sched ++ ([trunk] ++ done))
      _ = (pass ++ (sched ++ [trunk])) ++ done := by simp
      List.Perm _ (done ++ (pass ++ (sched ++ [trunk]))) := List.perm_append_comm
      List.Perm _ (done ++ (pass ++ ([trunk] ++ sched))) := (List.perm_append_comm.append_left _).append_left _
      _ = done ++ pass ++ trunk :: sched := by simp

end

/-! ### The state in which the responses begin (R9, R70, R91) -/

section
variable (cause : StopCause) (s : State)

theorem State.abandonAt_roster : (s.abandonAt cause).roster = s.roster := by
  cases cause with
  | stop => rfl
  | halt p => exact State.mapLive_roster _ _

theorem State.stopBase_port : (s.stopBase cause).port = s.port.stopped cause := by
  cases cause with
  | stop => rfl
  | halt p => exact State.mapLive_port _ _
theorem State.stopBase_engine : (s.stopBase cause).engine = s.engine := by
  cases cause with
  | stop => rfl
  | halt p => exact State.mapLive_engine _ _
theorem State.stopBase_batch : (s.stopBase cause).batch = s.batch := by
  cases cause with
  | stop => rfl
  | halt p => exact State.mapLive_batch _ _
theorem State.stopBase_link : (s.stopBase cause).link = s.link := by
  cases cause with
  | stop => rfl
  | halt p => exact State.mapLive_link _ _

/-- The stations keep their markers (R91). -/
theorem State.stopBase_entry (a : StAddr) : (s.stopBase cause).entry a = (s.entry a).atFramesStopping := by
  refine (Table.get_map _ _ _).trans ?_
  rw [State.abandonAt_roster]
  rfl

theorem State.stopBase_cursors : (s.stopBase cause).roster.rollCursor = s.roster.rollCursor ∧
    (s.stopBase cause).roster.presenceCursor = s.roster.presenceCursor := by
  have roster := (s.withPort (s.port.stopped cause)).abandonAt_roster cause
  have rollCursor := congrArg Roster.rollCursor roster
  have presenceCursor := congrArg Roster.presenceCursor roster
  exact ⟨rollCursor, presenceCursor⟩

/-- Of the delivery queue only the free count changes, by the buffers of the units given up (R70). -/
theorem State.stopBase_delivery : ∃ free, (s.stopBase cause).delivery = { s.delivery with free := free } := by
  cases cause with
  | stop => exact ⟨_, rfl⟩
  | halt p => exact ⟨_, (s.withPort (s.port.stopped (.halt p))).mapLive_delivery LiveCircuit.abandon⟩

theorem State.stopBase_pool :
    (s.stopBase cause).delivery.free + (s.stopBase cause).circuitsHeld = s.delivery.free + s.circuitsHeld := by
  cases cause with
  | stop => rfl
  | halt p => exact (s.withPort (s.port.stopped (.halt p))).mapLive_balance _ LiveCircuit.abandon_held_le

theorem State.stopBase_draft : (s.stopBase cause).sched.draft = s.sched.draft :=
  (State.abandonAt_inner (s := s.withPort (s.port.stopped cause)) cause).draft

theorem State.stopBase_adoptPending : (s.stopBase cause).sched.adoptPending = s.sched.adoptPending :=
  (State.abandonAt_inner (s := s.withPort (s.port.stopped cause)) cause).adopting

theorem State.stopBase_halt_circuit (p : FaultPos) (id : CircuitId) :
    (s.stopBase (.halt p)).circuit id = (s.circuit id).map LiveCircuit.abandon :=
  (s.withPort (s.port.stopped (.halt p))).circuit_mapLive LiveCircuit.abandon id

/-- FAULTY and ACTIVE stations are fit alike (R51). -/
theorem StationEntry.atFramesStopping_fit (e : StationEntry) : e.atFramesStopping.state.fit = e.state.fit := by
  simp only [StationEntry.atFramesStopping]
  split
  · next h => rw [h]; rfl
  · rfl

end

theorem State.Accounting.queue_nodup (h : s.Accounting) : s.engine.queue.Nodup := h.queueTags_nodup.of_map _

/-- A station of which no item is in progress (R73). -/
theorem BatchState.outstanding_stopped {b : BatchState} (h : b.shape) (cause : EndCause) (a : StAddr) :
    (b.stopped cause).outstanding a = [] := by
  cases b with
  | empty => rfl
  | loaded l => rfl
  | running l r =>
    cases hw : r.waiting with
    | true => simp [BatchState.stopped, hw, BatchState.outstanding, h.1 hw]
    | false => simp [BatchState.stopped, hw, BatchState.outstanding]

/-- The responses begin with everything still to do. -/
theorem State.stopBase_stopping (acc : s.Accounting) (law : s.MarkerLaw) (cause : StopCause) (draw : Nat) :
    Stopping cause (s.stopBase cause) [] (stopOrder draw s.engine.queue) (s.stopBase cause) := by
  obtain ⟨free, delivery⟩ := s.stopBase_delivery cause
  have mem := fun step => (stopOrder_perm draw s.engine.queue).mem_iff (a := step)
  refine
    { toStopKeeps := .refl _
      nodup := stopOrder_nodup draw acc.queue_nodup
      queue := ?_, hostRes := ?_, batchRes := ?_, tags := ?_, markers := ?_, batch := ?_, sched := ?_
      offered := .refl _ }
  · rw [s.stopBase_engine, stepRecords_stopOrder]
  · rw [delivery, s.stopBase_engine]; exact acc.hostRes
  · rw [delivery, s.stopBase_batch]; exact acc.batchRes
  · rw [s.stopBase_link, s.stopBase_engine, s.stopBase_batch]; exact acc.tags
  · intro a
    rw [State.hostOutstanding, s.stopBase_engine, s.stopBase_batch, s.stopBase_entry]
    exact law a
  · rw [if_pos ((mem _).mpr (by simp))]
  · rw [if_pos (.inl ((mem _).mpr (by simp)))]

/-- Everything that frames stopping leaves, whatever the order of its responses. -/
structure FramesStopped (cause : StopCause) (s t : State) : Prop where
  port : t.port = s.port.stopped cause
  entry : ∀ a, t.entry a = { s.entry a with
    state := if (s.entry a).state = .faulty then .active else (s.entry a).state
    missCount := 0, sinceHeard := 0, marker := none }
  rollCursor : t.roster.rollCursor = s.roster.rollCursor
  presenceCursor : t.roster.presenceCursor = s.roster.presenceCursor
  engine : t.engine = { s.engine with queue := [] }
  draft : t.sched.draft = s.sched.draft
  adoptPending : t.sched.adoptPending = false
  kept : s.sched.adoptPending = false → t.sched = (s.stopBase cause).sched
  pool : t.delivery.free + t.circuitsHeld = s.delivery.free + s.circuitsHeld
  credits : t.delivery.credits = s.delivery.credits
  preset : t.batch.preset = s.batch.preset
  batch : t.batch.state = s.batch.state.stopped cause.endCause
  records : ∃ new closed, t.delivery.records = s.delivery.records ++ new ∧
    (s.sched.adoptPending = true →
      AdoptsTo (fun id => (s.stopBase cause).circuit id) s.roster.entries s.sched.draft t closed) ∧
    StopRecords s.delivery (s.engine.queue.map fun r => .done r.tag cause.outcome 0 [])
      (s.batch.state.finalPass cause.outcome cause.endCause)
      (.event (.trunk cause.trunk s.port.frameNo cause.fault) ::
        if s.sched.adoptPending then [.event (.schedule s.port.frameNo closed)] else []) new t.delivery.folded
  tags : t.link.tags.Perm t.batch.state.tags
  hostRes : t.delivery.hostRes = 0
  link : t.link = { s.link with tags := t.link.tags }

theorem State.framesStopped (acc : s.Accounting) (law : s.MarkerLaw) (cause : StopCause) :
    FramesStopped cause s (s.framesStop cause) := by
  obtain ⟨draw, hstop⟩ := s.framesStop_eq cause
  rw [s.stopBase_engine] at hstop
  have begun := s.stopBase_stopping acc law cause draw
  have shape : (s.stopBase cause).batch.state.shape := by rw [s.stopBase_batch]; exact acc.shape
  have ended := begun.steps shape
  rw [← hstop, List.nil_append] at ended
  obtain ⟨free, delivery⟩ := s.stopBase_delivery cause
  have queue : (s.framesStop cause).engine.queue = [] := ended.queue
  have batch : (s.framesStop cause).batch.state = s.batch.state.stopped cause.endCause := by
    rw [ended.batch, if_neg List.not_mem_nil, s.stopBase_batch]
  have sched : (s.framesStop cause).sched =
      if s.sched.adoptPending = false then (s.stopBase cause).sched else (s.stopBase cause).carryOutAdoption.sched := by
    rw [ended.sched, s.stopBase_adoptPending]
    simp
  have unmarked : ∀ a, ((s.framesStop cause).entry a).marker = none := by
    intro a
    have law := ended.markers a
    rw [State.hostOutstanding, queue, batch, BatchState.outstanding_stopped acc.shape] at law
    exact Option.toList_eq_nil_iff.mp law.symm
  have offered : Offered s.delivery
      ((stopOrder draw s.engine.queue).flatMap (StopStep.puts cause (s.stopBase cause))) (s.framesStop cause).delivery := by
    have h := ended.offered
    rw [delivery] at h
    exact ⟨h.records, h.folded, h.occupancy, h.credits⟩
  obtain ⟨hroll, hpresence⟩ := s.stopBase_cursors cause
  constructor
  case port => rw [ended.port, s.stopBase_port]
  case entry =>
    intro a
    rw [ended.entry a, unmarked a, s.stopBase_entry]
    rfl
  case rollCursor => rw [ended.rollCursor, hroll]
  case presenceCursor => rw [ended.presenceCursor, hpresence]
  case engine => rw [ended.engine, queue, s.stopBase_engine]
  case draft => rw [ended.draft, s.stopBase_draft]
  case adoptPending =>
    rw [sched]
    cases hp : s.sched.adoptPending with
    | true => rw [if_neg (by simp), State.carryOutAdoption_adoptPending]
    | false => rw [if_pos rfl, s.stopBase_adoptPending, hp]
  case kept => intro hp; rw [sched, if_pos hp]
  case pool => rw [ended.pool, s.stopBase_pool]
  case credits => exact offered.credits
  case preset => rw [ended.preset, s.stopBase_batch]
  case batch => exact batch
  case tags =>
    have tags := ended.tags
    rwa [queue] at tags
  case hostRes => rw [ended.hostRes, queue]; rfl
  case link => rw [ended.link, s.stopBase_link]
  case records =>
    have done := puts_filter_done cause (s.stopBase cause) (stopOrder draw s.engine.queue)
    rw [stepRecords_stopOrder] at done
    have perm := puts_perm cause (s.stopBase cause) (stopOrder_perm draw s.engine.queue)
    have frame : (s.stopBase cause).port.frameNo = s.port.frameNo := by rw [s.stopBase_port]; rfl
    rw [s.stopBase_batch, s.stopBase_adoptPending, frame] at perm
    have plain : ∀ r ∈ (s.engine.queue.map fun r => .done r.tag cause.outcome 0 []) ++
        s.batch.state.finalPass cause.outcome cause.endCause, r.event? = none := by
      intro r hr
      rcases List.mem_append.mp hr with hr | hr
      · obtain ⟨q, -, rfl⟩ := List.mem_map.mp hr
        rfl
      · exact BatchState.event?_of_mem_finalPass hr
    obtain ⟨new, hnew, hstopped⟩ := offered.stopRecords done plain perm
    refine ⟨new, (s.stopBase cause).closedIds, hnew, fun hp => ?adopts, hstopped⟩
    case adopts =>
      have runs : ∀ d : CircuitDef, d.newRunState (s.stopBase cause).roster.entries = d.newRunState s.roster.entries := by
        intro d
        unfold CircuitDef.newRunState
        cases d.station? with
        | none => rfl
        | some a =>
          have fit : ((s.stopBase cause).entry a).state.fit = (s.entry a).state.fit := by
            rw [s.stopBase_entry, StationEntry.atFramesStopping_fit]
          simp only [show ((s.stopBase cause).roster.entries.get a).state.fit = (s.roster.entries.get a).state.fit from fit]
      have adopts := State.adoptsTo_of_sched (s := s.stopBase cause) (t := s.framesStop cause)
        (by rw [sched, if_neg (by simp [hp])])
      rw [s.stopBase_draft] at adopts
      obtain ⟨hclosed, hascending, hdraft, hpending, hpairs, hcircuits⟩ := adopts
      simp only [runs] at hcircuits
      exact ⟨hclosed, hascending, hdraft, hpending, hpairs, hcircuits⟩

/-- The batch unit's state after frames stopped, by its state before (R132). -/
theorem BatchState.stopped_cases {before after : BatchState} {cause : EndCause} : after = before.stopped cause →
    match before with
    | .empty => after = .empty
    | .loaded l => after = .loaded l
    | .running l r =>
      if r.waiting then after = .running l { r with decided := some (r.decided.getD cause) } else after = .loaded l := by
  rintro rfl
  cases before with
  | empty => rfl
  | loaded l => rfl
  | running l r => cases hw : r.waiting <;> simp [BatchState.stopped, hw]

/-- Settles O34: the responses in any order leave one state, but for the places of their records. -/
theorem framesStopByStop : Obligations.FramesStopByStop := by
  intro c s acc law hrun hwhy
  have stopped := s.framesStopped acc law .stop
  obtain ⟨new, closed, hnew, hadopts, hrecords⟩ := stopped.records
  have live : s.sched.adoptPending = false → (s.framesStop .stop).sched.live = s.sched.live := fun hp => by
    rw [stopped.kept hp]
    rfl
  have batch := BatchState.stopped_cases stopped.batch
  rcases hwhy with ⟨htakes, hpos, tag, rfl⟩ | ⟨hheld, howes, rfl⟩
  case inl =>
    refine ⟨(s.framesStop .stop).replied tag .ok 0 [], ?_, stopped.port, stopped.entry, stopped.rollCursor,
      stopped.presenceCursor, stopped.engine, stopped.draft, stopped.adoptPending, live, stopped.pool, stopped.credits,
      stopped.preset, batch, ⟨new, closed, hnew, fun hp => ?_, hrecords⟩, stopped.tags, stopped.hostRes, fun h => ?_,
      fun tag' h => ?_⟩
    · have owned : ownStop s = (s.framesStop .stop, .ok 0) := by
        have now : s.stopRunning = s.framesStop .stop := if_pos hpos
        cases ht : s.port.trunk with
        | starting | running => simp only [ownStop, ht, now]
        | off | ready | halted => rw [ht] at hrun; cases hrun
      rw [exec_stop, show fixedLength 0 [] = true from rfl, takeRequest_taken htakes, owned]
      rfl
    · obtain ⟨hclosed, hascending, hdraft, hpending, hpairs, hcircuits⟩ := hadopts hp
      exact ⟨hclosed, hascending, hdraft, hpending, hpairs, hcircuits⟩
    · cases h
    · obtain rfl : tag = tag' := by
        cases h
        rfl
      exact congrArg (fun k : Link => { k with
        receiver := .hunting, replies := k.replies ++ [(⟨tag, .ok, 0, []⟩ : Reply)] }) stopped.link
  case inr =>
    exact ⟨s.framesStop .stop, by rw [exec_stopComplete, onOwed_acts hheld howes], stopped.port, stopped.entry,
      stopped.rollCursor, stopped.presenceCursor, stopped.engine, stopped.draft, stopped.adoptPending, live, stopped.pool,
      stopped.credits, stopped.preset, batch, ⟨new, closed, hnew, hadopts, hrecords⟩, stopped.tags, stopped.hostRes,
      fun _ => stopped.link, fun _ h => by cases h⟩

/-! ### Collisions (R19, R20) -/

/-- Settles O60: the first collision of a frame adds to the streak, and the third frame in a row halts the trunk. -/
theorem collisionsAndLineFault : Obligations.CollisionsAndLineFault := by
  intro place s hopen hrun htx hhit hplace
  have sending : s.port.trunk.framesRun = true ∧ s.port.tx.isSome = true ∧ s.port.hit = false :=
    ⟨hrun, Option.isSome_iff_ne_none.mpr htx, hhit⟩
  have seen : s.collisionPlace = some place := by
    rw [State.collisionPlace, if_pos sending]
    rcases hplace with ⟨adopting, hpos, rfl⟩ | ⟨k, mode, hpos, rfl⟩ <;> rw [hpos]
  have collides : exec .collision s = .next (s.collideAt place) := by
    rw [exec_collision, onEvent_acts hopen (by rw [seen]; rfl), State.collideNow, seen]
  rw [collides]
  refine ⟨fun hc => ?again, fun hc hstreak => ?first, fun hc hstreak acc law => ?fault⟩
  case again =>
    have fault : ¬ s.port.lineFault = true := by simp [Port.lineFault, hc]
    have port : s.port.collide = { s.port with collisions := satInc s.port.collisions, hit := true } := by
      simp [Port.collide, hc]
    rw [State.collideAt, if_neg fault, port]
    rfl
  case first =>
    have below : ¬ Config.faultStreak ≤ s.port.streak + 1 := by
      simp only [Config.faultStreak]
      omega
    have fault : ¬ s.port.lineFault = true := by simp [Port.lineFault, below]
    have streak : min Config.faultStreak (s.port.streak + 1) = s.port.streak + 1 :=
      Nat.min_eq_right (by simp only [Config.faultStreak]; omega)
    have port : s.port.collide = { s.port with
        collisions := satInc s.port.collisions, hit := true, collided := true, streak := s.port.streak + 1 } := by
      simp [Port.collide, hc, streak]
    rw [State.collideAt, if_neg fault, port]
    rfl
  case fault =>
    have fault : s.port.lineFault = true := by simp [Port.lineFault, hc, hstreak, Config.faultStreak]
    rw [State.collideAt, if_pos fault]
    have stopped := State.framesStopped (s := s.withPort s.port.collide)
      ⟨acc.hostRes, acc.batchRes, acc.occupancy, acc.records, acc.tags, acc.distinct, acc.shape⟩ law (.halt place)
    obtain ⟨new, closed, hnew, hadopts, hrecords⟩ := stopped.records
    have port : s.port.collide.stopped (.halt place) = { s.port with
        collisions := satInc s.port.collisions, collided := true, streak := 3, trunk := .halted
        stopPending := false, timer := .disarmed, hit := false, pos := .idle, tx := none, pair := none } := by
      simp [Port.collide, Port.stopped, hc, hstreak, Config.faultStreak, StopCause.trunk]
    have circuits := funext fun id => (s.withPort s.port.collide).stopBase_halt_circuit place id
    refine ⟨_, rfl, stopped.port.trans port, stopped.entry, stopped.engine, stopped.draft, stopped.adoptPending,
      fun hp id => ?_, stopped.rollCursor, stopped.presenceCursor, stopped.pool, stopped.credits, stopped.preset,
      BatchState.stopped_cases stopped.batch, ⟨new, closed, hnew, fun hp => ?_, hrecords⟩, stopped.tags, stopped.hostRes,
      stopped.link⟩
    · rw [State.circuit_congr (stopped.kept hp) id]
      exact State.stopBase_halt_circuit _ place id
    · have adopts := hadopts hp
      rw [circuits] at adopts
      exact adopts

end Sys2Proof.Machine
end

section
/-! Validation of a draft: what each check reads, the lowest slot that offends, the one use of each slot; and ADOPT by the
trunk state (R27, R34 to R37, R40 to R47). -/

namespace Sys2Proof.Machine

variable {s : State} {tag : Byte} {d : Draft} {k : Nat}

/-! ### Tables read as lists -/

theorem Table.mem_filterMap_toList {α : Type} {n : Nat} {t : Table (Option α) n} {a : α} :
    a ∈ t.toList.filterMap id ↔ ∃ i, t.get i = some a := by
  have mem : a ∈ t.toList.filterMap id ↔ some a ∈ t.toList := by simp
  rw [mem, List.mem_iff_getElem]
  constructor
  · rintro ⟨i, hi, h⟩
    exact ⟨⟨i, t.size_eq ▸ hi⟩, h⟩
  · rintro ⟨i, h⟩
    exact ⟨i, by rw [t.size_eq]; exact i.isLt, h⟩

/-- A relation holds pairwise along a table when it holds of every entry with every later one. -/
theorem Table.pairwise_toList {α : Type} {n : Nat} {t : Table α n} {R : α → α → Prop} :
    t.toList.Pairwise R ↔ ∀ i j, i < j → R (t.get i) (t.get j) := by
  rw [List.pairwise_iff_getElem]
  constructor
  · intro h i j hij
    exact h i j (by rw [t.size_eq]; exact i.isLt) (by rw [t.size_eq]; exact j.isLt) hij
  · intro h i j hi hj hij
    exact h ⟨i, t.size_eq ▸ hi⟩ ⟨j, t.size_eq ▸ hj⟩ hij

/-! ### What each check reads (R35 to R37) -/

theorem Draft.usedByPair_iff : usedByPair d.pairs k = true ↔ d.PairUses k := by
  simp [usedByPair, Draft.PairUses]

theorem Draft.usedByCircuit_iff : usedByCircuit d.defs k = true ↔ d.CircuitUses k := by
  simp only [usedByCircuit, Draft.defs, Draft.CircuitUses, List.any_eq_true, List.contains_iff_mem,
    Table.mem_filterMap_toList]
  exact ⟨fun ⟨c, ⟨id, hc⟩, hk⟩ => ⟨id, c, hc, hk⟩, fun ⟨id, c, hc, hk⟩ => ⟨c, ⟨id, hc⟩, hk⟩⟩

/-- Two definitions clash on slot `k`: both name it, and their phases agree modulo the smaller divisor (R37). -/
def CircuitDef.ClashesAt (k : Nat) (a b : CircuitDef) : Prop :=
  k ∈ a.slots ∧ k ∈ b.slots ∧ a.phase % min a.divisor b.divisor = b.phase % min a.divisor b.divisor

theorem CircuitDef.ClashesAt.symm {a b : CircuitDef} (h : a.ClashesAt k b) : b.ClashesAt k a := by
  obtain ⟨ha, hb, hphase⟩ := h
  exact ⟨hb, ha, by rw [min_comm, hphase]⟩

theorem collisionAt_eq_false_iff {defs : List CircuitDef} :
    collisionAt k defs = false ↔ defs.Pairwise fun a b => ¬ a.ClashesAt k b := by
  induction defs with
  | nil => simp [collisionAt]
  | cons a rest ih =>
    simp only [collisionAt, Bool.or_eq_false_iff, ih, List.pairwise_cons, Bool.and_eq_false_iff, List.any_eq_false,
      CircuitDef.collide, CircuitDef.ClashesAt, List.contains_iff_mem, Bool.and_eq_true, beq_iff_eq]
    refine and_congr_left fun _ => ⟨?_, fun h => ?_⟩
    · rintro (ha | hb) b hmem ⟨hka, hkb, hphase⟩
      · simp [hka] at ha
      · exact hb b hmem ⟨hkb, hphase⟩
    · by_cases hka : k ∈ a.slots
      · exact .inr fun b hmem ⟨hkb, hphase⟩ => h b hmem ⟨hka, hkb, hphase⟩
      · exact .inl (by simpa using hka)

theorem Draft.collides_iff : d.Collides k ↔
    ∃ id id' c c', id < id' ∧ d.circuits.get id = some c ∧ d.circuits.get id' = some c' ∧ c.ClashesAt k c' := by
  constructor
  · rintro ⟨id, id', c, c', hne, hc, hc', hk, hk', hphase⟩
    have clash : c.ClashesAt k c' := ⟨hk, hk', hphase⟩
    obtain lt | gt := lt_or_gt_of_ne hne
    · exact ⟨id, id', c, c', lt, hc, hc', clash⟩
    · exact ⟨id', id, c', c, gt, hc', hc, clash.symm⟩
  · rintro ⟨id, id', c, c', lt, hc, hc', hk, hk', hphase⟩
    exact ⟨id, id', c, c', ne_of_lt lt, hc, hc', hk, hk', hphase⟩

theorem Draft.collisionAt_iff : collisionAt k d.defs = true ↔ d.Collides k := by
  rw [← Bool.not_eq_false, collisionAt_eq_false_iff, Draft.defs, List.pairwise_filterMap, Table.pairwise_toList,
    Draft.collides_iff]
  constructor
  · intro h
    by_contra hn
    exact h fun i j hij c hc c' hc' clash => hn ⟨i, j, c, c', hij, hc, hc', clash⟩
  · rintro ⟨i, j, c, c', hij, hc, hc', clash⟩ h
    exact h i j hij c hc c' hc' clash

/-! ### The lowest slot that offends -/

theorem lowestSlot_eq_none_iff {p : Nat → Bool} : lowestSlot p = none ↔ ∀ k < 64, p k = false := by
  simp [lowestSlot]

theorem lowestSlot_eq_none {p : Nat → Bool} {offends : Nat → Prop} (h : ∀ k, p k = true ↔ offends k)
    (clear : ∀ k, ¬ offends k) : lowestSlot p = none :=
  lowestSlot_eq_none_iff.mpr fun k _ => Bool.eq_false_iff.mpr (mt (h k).mp (clear k))

/-- The slot that a check names is the lowest that offends. -/
theorem lowestSlot_eq_some {p : Nat → Bool} {offends : Nat → Prop} (h : ∀ k, p k = true ↔ offends k)
    (lowest : Lowest offends k) (below : k < 64) : lowestSlot p = some k := by
  rw [lowestSlot, List.find?_range_eq_some]
  exact ⟨(h k).mpr lowest.1, List.mem_range.mpr below, fun j hj => by simpa using mt (h j).mp (lowest.2 j hj)⟩

/-! ### Slots of legal definitions (R24, R25) -/

/-- Definitions and open-pair list of a draft hold legal values only (R24, R25). -/
structure Draft.Legal (d : Draft) : Prop where
  circuits : ∀ id c, d.circuits.get id = some c → c.Legal
  pairs : PairsLegal d.pairs

theorem Draft.Legal.pairUses_lt (h : d.Legal) (hk : d.PairUses k) : k < 64 := by
  obtain ⟨p, hp, hk⟩ := hk
  have := h.pairs.entries p hp
  omega

theorem Draft.Legal.circuitUses_lt (h : d.Legal) (hk : d.CircuitUses k) : k < 64 := by
  obtain ⟨id, c, hc, hk⟩ := hk
  have := (h.circuits id c hc).slots k hk
  omega

theorem Draft.Collides.circuitUses (h : d.Collides k) : d.CircuitUses k := by
  obtain ⟨id, _, c, _, _, hc, _, hk, _⟩ := h
  exact ⟨id, c, hc, hk⟩

/-! ### Validation (R35 to R37) -/

section
variable {slots : Nat}

/-- Slot `k` is used at or above S (R35). -/
def Draft.UsesOutside (slots k : Nat) (d : Draft) : Prop := slots ≤ k ∧ (d.PairUses k ∨ d.CircuitUses k)

/-- Slot `k` of an open pair is a circuit's too (R36). -/
def Draft.Overlaps (k : Nat) (d : Draft) : Prop := d.PairUses k ∧ d.CircuitUses k

theorem Draft.usesOutside_iff (k : Nat) :
    (decide (slots ≤ k) && (usedByPair d.pairs k || usedByCircuit d.defs k)) = true ↔ d.UsesOutside slots k := by
  simp [Draft.UsesOutside, Draft.usedByPair_iff, Draft.usedByCircuit_iff]

theorem Draft.overlaps_iff (k : Nat) : (usedByPair d.pairs k && usedByCircuit d.defs k) = true ↔ d.Overlaps k := by
  simp [Draft.Overlaps, Draft.usedByPair_iff, Draft.usedByCircuit_iff]

/-- A draft that passes validation fails none of the checks on its slots. -/
theorem Draft.valid_of_conflict_none (h : d.conflict slots = none) (hk : k < 64) :
    ¬ d.UsesOutside slots k ∧ ¬ d.Overlaps k ∧ ¬ d.Collides k := by
  unfold Draft.conflict at h
  split at h
  · cases h
  · simp only [Option.or_eq_none_iff, lowestSlot_eq_none_iff] at h
    obtain ⟨outside, overlap, collision⟩ := h
    rw [← Draft.usesOutside_iff, ← Draft.overlaps_iff, ← Draft.collisionAt_iff, outside k hk, overlap k hk,
      collision k hk]
    simp

theorem Draft.conflict_of_no_pairs (h : d.pairs = []) : d.conflict slots = some 0xFF := by
  rw [Draft.conflict, if_pos h, noSlotDetail]

section
variable (legal : d.Legal) (h : d.pairs ≠ [])
include legal h

theorem Draft.conflict_of_outside (lowest : Lowest (d.UsesOutside slots ·) k) : d.conflict slots = some k := by
  have below : k < 64 := lowest.1.2.elim legal.pairUses_lt legal.circuitUses_lt
  rw [Draft.conflict, if_neg h, lowestSlot_eq_some Draft.usesOutside_iff lowest below, Option.some_or]

theorem Draft.conflict_of_overlap (inside : ∀ k, ¬ d.UsesOutside slots k) (lowest : Lowest (Draft.Overlaps · d) k) :
    d.conflict slots = some k := by
  rw [Draft.conflict, if_neg h, lowestSlot_eq_none Draft.usesOutside_iff inside, Option.none_or,
    lowestSlot_eq_some Draft.overlaps_iff lowest (legal.circuitUses_lt lowest.1.2), Option.some_or]

theorem Draft.conflict_of_collision (inside : ∀ k, ¬ d.UsesOutside slots k) (apart : ∀ k, ¬ d.Overlaps k)
    (lowest : Lowest (Draft.Collides · d) k) : d.conflict slots = some k := by
  rw [Draft.conflict, if_neg h, lowestSlot_eq_none Draft.usesOutside_iff inside, Option.none_or,
    lowestSlot_eq_none Draft.overlaps_iff apart, Option.none_or]
  exact lowestSlot_eq_some (fun _ => Draft.collisionAt_iff) lowest (legal.circuitUses_lt lowest.1.circuitUses)

end

/-! ### One use of each slot (R27, R38) -/

/-- Legal divisors are powers of two, so the smaller of two divides both (R24). -/
theorem min_divisor_dvd : ∀ a ∈ [1, 2, 4, 8, 16], ∀ b ∈ [1, 2, 4, 8, 16], min a b ∣ a ∧ min a b ∣ b := by decide

/-- Two circuits due in one frame have phases equal modulo the smaller divisor (R26, R37). -/
theorem CircuitDef.clashesAt_of_due {a b : CircuitDef} {f : FrameNo} (ha : a.Legal) (hb : b.Legal) (hka : k ∈ a.slots)
    (hkb : k ∈ b.slots) (duea : a.due f = true) (dueb : b.due f = true) : a.ClashesAt k b := by
  obtain ⟨dvda, dvdb⟩ := min_divisor_dvd _ ha.divisor _ hb.divisor
  rw [CircuitDef.due, beq_iff_eq] at duea dueb
  refine ⟨hka, hkb, ?_⟩
  rw [← duea, ← dueb, Nat.mod_mod_of_dvd _ dvda, Nat.mod_mod_of_dvd _ dvdb]

/-- Two entries of a legal open-pair list are the same or at least 2 apart (R25). -/
theorem PairsLegal.apart_or_eq {pairs : List Nat} (h : PairsLegal pairs) {i j : Nat} (hi : i ∈ pairs) (hj : j ∈ pairs) :
    i = j ∨ i + 2 ≤ j ∨ j + 2 ≤ i :=
  have forth : pairs.Pairwise fun a b => a = b ∨ a + 2 ≤ b ∨ b + 2 ≤ a := h.apart.imp fun hab => .inr (.inl hab)
  have back : pairs.Pairwise (flip fun a b => a = b ∨ a + 2 ≤ b ∨ b + 2 ≤ a) := h.apart.imp fun hab => .inr (.inr hab)
  List.Pairwise.forall_of_forall_of_flip (fun _ _ => .inl rfl) forth back hi hj

end

/-- Settles O14: a slot of two uses would be found by one of the checks. -/
theorem slotHasOneUse : Obligations.SlotHasOneUse := by
  intro d slots circuits pairs conflict f k
  have legal : d.Legal := ⟨circuits, pairs⟩
  refine ⟨fun id c hc due hk => ?_, fun hk => ?_⟩
  · have used : d.CircuitUses k := ⟨id, c, hc, hk⟩
    obtain ⟨inside, apart, alone⟩ := Draft.valid_of_conflict_none conflict (legal.circuitUses_lt used)
    have no_pair : ¬ d.PairUses k := fun hp => apart ⟨hp, used⟩
    refine ⟨not_le.mp fun h => inside ⟨h, .inr used⟩, fun h => no_pair ⟨k, h, .inl rfl⟩,
      fun j hj h => no_pair ⟨j, hj, .inr h⟩, fun id' c' hc' due' hk' => ?_⟩
    by_contra hne
    obtain ⟨-, -, phases⟩ := CircuitDef.clashesAt_of_due (circuits id c hc) (circuits id' c' hc') hk hk' due due'
    exact alone ⟨id, id', c, c', Ne.symm hne, hc, hc', hk, hk', phases⟩
  · have used : d.PairUses (k + 1) := ⟨k, hk, .inr rfl⟩
    obtain ⟨inside, -, -⟩ := Draft.valid_of_conflict_none conflict (legal.pairUses_lt used)
    refine ⟨not_le.mp fun h => inside ⟨h, .inl used⟩, fun hmem => ?_, fun j hj hkj => ?_⟩
    · have := pairs.apart_or_eq hk hmem
      omega
    · have := pairs.apart_or_eq hj hk
      omega

/-! ### ADOPT (R34, R40, R41) -/

theorem exec_adopt_taken (h : s.Takes) :
    exec (.adopt tag []) s = .next ((ownAdopt s).1.pushReply tag (ownAdopt s).2) := by
  rw [exec_adopt, show fixedLength 0 [] = true from rfl, takeRequest_taken h]

/-- Outside OFF the draft is validated unless an adoption is pending, and waits exactly where frames run. -/
theorem ownAdopt_of_ne_off (h : s.port.trunk ≠ .off) :
    ownAdopt s = editDraft (adoptValidated s.port.trunk.framesRun) s := by
  unfold ownAdopt
  cases ht : s.port.trunk with
  | off => exact absurd ht h
  | ready | starting | running | halted => rfl

theorem editDraft_of_pending {go : State → State × Answer} (h : s.sched.adoptPending = true) :
    editDraft go s = (s, .refuse .busy) := if_pos h

theorem editDraft_of_not_pending {go : State → State × Answer} (h : s.sched.adoptPending = false) :
    editDraft go s = go s := if_neg (by simp [h])

theorem adoptValidated_of_conflict {pending : Bool} {detail : Nat} (h : s.sched.draft.conflict s.cfg.slots = some detail) :
    adoptValidated pending s = (s, .refuseWith .conflict detail) := by
  rw [adoptValidated, h]

theorem adoptValidated_of_valid {pending : Bool} (h : s.sched.draft.conflict s.cfg.slots = none) :
    adoptValidated pending s = if pending then (s.withSched { s.sched with adoptPending := true }, .accepted 0)
      else (s.carryOutAdoption, .okData (closedBytes s.closedIds)) := by
  rw [adoptValidated, h]

/-- Settles O37: the trunk state, then a pending adoption, then the checks of the draft in their order. -/
theorem adoptChecksAndPends : Obligations.AdoptChecksAndPends := by
  intro tag s hs
  have refuses : s.port.trunk ≠ .off → s.sched.adoptPending = false → ∀ detail,
      s.sched.draft.conflict s.cfg.slots = some detail →
      exec (.adopt tag []) s = .next (s.replied tag .conflict detail []) := by
    intro ht hp detail hd
    rw [exec_adopt_taken hs, ownAdopt_of_ne_off ht, editDraft_of_not_pending hp,
      adoptValidated_of_conflict hd, State.pushReply_refuseWith]
  refine ⟨fun ht => ?_, fun ht hp => ?_, refuses, fun ht hp hd => ?_, fun ht hp legal => ?_⟩
  · rw [exec_adopt_taken hs]
    simp only [ownAdopt, ht]
    rfl
  · rw [exec_adopt_taken hs, ownAdopt_of_ne_off ht, editDraft_of_pending hp]
    rfl
  · rw [exec_adopt_taken hs, ownAdopt_of_ne_off (TrunkState.ne_off_of_framesRun ht), editDraft_of_not_pending hp,
      adoptValidated_of_valid hd, if_pos ht]
    rfl
  · have draft : s.sched.draft.Legal := ⟨legal.draft, legal.draftPairs⟩
    exact ⟨fun h => refuses ht hp _ (Draft.conflict_of_no_pairs h), fun h =>
      ⟨fun k lowest => refuses ht hp k (Draft.conflict_of_outside draft h lowest), fun inside =>
        ⟨fun k lowest => refuses ht hp k (Draft.conflict_of_overlap draft h inside lowest), fun apart k lowest =>
          refuses ht hp k (Draft.conflict_of_collision draft h inside apart lowest)⟩⟩⟩

/-- Settles O38: the draft is carried out, and each id is treated as the rules say. -/
theorem adoptAtOnceTreatsEachId : Obligations.AdoptAtOnceTreatsEachId := by
  intro tag s hs ht hp hd
  have idle : s.port.trunk ≠ .off ∧ s.port.trunk.framesRun = false := by
    obtain ht | ht := ht <;> simp [ht, TrunkState.framesRun]
  have own : ownAdopt s = (s.carryOutAdoption, .okData (closedBytes s.closedIds)) := by
    rw [ownAdopt_of_ne_off idle.1, editDraft_of_not_pending hp, adoptValidated_of_valid hd, idle.2]
    rfl
  refine ⟨s.carryOutAdoption, s.closedIds, ?_, ⟨State.adoptsTo_of_sched rfl, s.carryOutAdoption_balance, ?_⟩,
    s.carryOutAdoption_port, s.carryOutAdoption_link, s.carryOutAdoption_delivery⟩
  · rw [exec_adopt_taken hs, own]
    rfl
  · exact ⟨s.carryOutAdoption_roster, s.carryOutAdoption_engine, s.carryOutAdoption_batch⟩

end Sys2Proof.Machine
end

section
/-! The requests that edit the draft: the fields of DEFINE_CIRCUIT and SET_OPEN, the definition that is stored and reads
back, and what each request answers (R28 to R33, R68, R169). -/

namespace Sys2Proof.Machine

variable {s : State} {tag : Byte} {p : List Byte}

/-! ### Bytes and fields -/

@[simp] theorem byteOf_numAt (p : List Byte) (i : Nat) : byteOf (numAt p i) = byteAt p i := by simp [byteOf, numAt]

theorem numAt_lt (p : List Byte) (i : Nat) : numAt p i < 256 := (byteAt p i).isLt

theorem firstFault_eq_none_iff {fields : List (Nat × Bool)} : firstFault fields = none ↔ ∀ f ∈ fields, f.2 = false := by
  refine ⟨fun h => ?_, firstFault_eq_none⟩
  induction fields with
  | nil => simp
  | cons f rest ih =>
    obtain ⟨n, bad⟩ := f
    cases bad with
    | true => cases h
    | false => exact List.forall_mem_cons.mpr ⟨rfl, ih h⟩

/-! ### The fields of DEFINE_CIRCUIT (R28) -/

/-- Every field of a DEFINE_CIRCUIT payload is legal (R28). -/
structure DefineLegal (p : List Byte) : Prop where
  id : numAt p 0 ≤ 31
  direction : numAt p 1 = 1 ∨ numAt p 1 = 2
  station : 1 ≤ numAt p 2 ∧ numAt p 2 ≤ 31 ∧ (numAt p 2 = 31 → numAt p 1 = 1)
  divisor : numAt p 3 ∈ [1, 2, 4, 8, 16]
  phase : numAt p 4 < numAt p 3
  count : 1 ≤ numAt p 5 ∧ numAt p 5 ≤ 4
  entries : ∀ n, 1 ≤ n → n ≤ numAt p 5 → numAt p (5 + n) ≤ 63 ∧ (2 ≤ n → numAt p (4 + n) < numAt p (5 + n))
  outFields : numAt p 1 = 1 → 1 ≤ numAt p 10 ∧ numAt p 10 ≤ 8 ∧ numAt p 11 = 0
  inFields : numAt p 1 = 2 → numAt p 10 = 0 ∧ numAt p 11 ≤ 1

theorem slotEntryFails_eq_false_iff (p : List Byte) (n : Nat) : slotEntryFails p n = false ↔
    (n ≤ numAt p 5 → numAt p (5 + n) ≤ 63 ∧ (2 ≤ n → numAt p (4 + n) < numAt p (5 + n))) := by
  simp only [slotEntryFails, Bool.and_eq_false_iff, Bool.or_eq_false_iff, decide_eq_false_iff_not]
  omega

theorem defineFault_eq_none_iff : defineFault p = none ↔ DefineLegal p := by
  simp only [defineFault, firstFault_eq_none_iff, List.forall_mem_cons, List.not_mem_nil, false_implies, implies_true,
    and_true, slotEntryFails_eq_false_iff, ite_eq_iff', Bool.or_eq_false_iff, Bool.and_eq_false_iff,
    Bool.not_eq_false', List.contains_iff_mem, decide_eq_false_iff_not, beq_eq_false_iff_ne, beq_iff_eq]
  constructor
  · rintro ⟨id, direction, station, divisor, phase, count, e1, e2, e3, e4, depth, filter⟩
    have entries : ∀ n, 1 ≤ n → n ≤ numAt p 5 →
        numAt p (5 + n) ≤ 63 ∧ (2 ≤ n → numAt p (4 + n) < numAt p (5 + n)) := by
      intro n h1 hn
      have cases : n = 1 ∨ n = 2 ∨ n = 3 ∨ n = 4 := by omega
      obtain rfl | rfl | rfl | rfl := cases
      · exact e1 hn
      · exact e2 hn
      · exact e3 hn
      · exact e4 hn
    clear e1 e2 e3 e4
    exact ⟨by omega, by omega, by omega, divisor, by omega, by omega, entries, by omega, by omega⟩
  · rintro ⟨id, direction, station, divisor, phase, count, entries, outFields, inFields⟩
    refine ⟨by omega, by omega, by omega, divisor, by omega, by omega, entries 1 (by omega), entries 2 (by omega),
      entries 3 (by omega), entries 4 (by omega), by omega, by omega⟩

/-! ### The definition that DEFINE_CIRCUIT carries (R24, R29) -/

theorem defineDef_slots_length (p : List Byte) : (defineDef p).slots.length = numAt p 5 := by simp [defineDef]

theorem mem_defineDef_slots {k : Nat} : k ∈ (defineDef p).slots ↔ ∃ i < numAt p 5, numAt p (6 + i) = k := by
  simp [defineDef]

/-- Entries that each exceed the one before them by at least `d` are pairwise that far apart. -/
theorem pairwise_range_map {f : Nat → Nat} {d n : Nat} (h : ∀ i, i + 1 < n → f i + d ≤ f (i + 1)) :
    ((List.range n).map f).Pairwise fun a b => a + d ≤ b := by
  have steps : ∀ i j, i < j → j < n → f i + d ≤ f j := by
    intro i j hij
    induction j, hij using Nat.le_induction with
    | base => exact h i
    | succ j _ ih =>
      intro hj
      have := ih (by omega)
      have := h j hj
      omega
  rw [List.pairwise_map]
  exact List.pairwise_lt_range.imp_of_mem fun _ hj hij => steps _ _ hij (List.mem_range.mp hj)

/-- Legal fields make a legal definition (R24, R28). -/
theorem DefineLegal.defineDef_legal (h : DefineLegal p) : (defineDef p).Legal where
  divisor := h.divisor
  phase := h.phase
  width := by rw [defineDef_slots_length]; exact h.count
  slots k hk := by
    obtain ⟨i, hi, rfl⟩ := mem_defineDef_slots.mp hk
    have := (h.entries (i + 1) (by omega) hi).1
    rwa [show 5 + (i + 1) = 6 + i by omega] at this
  ascending := by
    refine (pairwise_range_map (d := 1) fun i hi => ?_).imp fun hab => hab
    have := (h.entries (i + 2) (by omega) hi).2 (by omega)
    rwa [show 4 + (i + 2) = 6 + i by omega, show 5 + (i + 2) = 6 + (i + 1) by omega] at this
  depth d n hends := by
    by_cases hdir : numAt p 1 = 1
    · obtain ⟨low, high, -⟩ := h.outFields hdir
      simp only [defineDef, defineEnds, if_pos hdir, CircuitEnds.out.injEq] at hends
      obtain ⟨-, rfl⟩ := hends
      exact ⟨low, high⟩
    · simp [defineDef, defineEnds, hdir] at hends

/-- The payload carries the definition of a circuit, with any values in the slot entries beyond the slot count (R28,
R167). -/
structure CarriesDefinition (p : List Byte) (id : CircuitId) (c : CircuitDef) : Prop where
  id : numAt p 0 = id.val
  direction : numAt p 1 = if c.isOut then 1 else 2
  station : numAt p 2 = c.ends.stationByte.toNat
  divisor : numAt p 3 = c.divisor
  phase : numAt p 4 = c.phase
  slots : c.slots = (List.range (numAt p 5)).map fun i => numAt p (6 + i)
  depth : numAt p 10 = c.depth
  filter : numAt p 11 = if c.filterOn then 1 else 0

theorem addrByte_toNat (a : StAddr) : (addrByte a).toNat = a.val + 1 := by
  simp only [addrByte, BitVec.toNat_ofNat]
  omega

theorem addrByte_stationOf {n : Nat} (low : 1 ≤ n) (high : n ≤ 30) : addrByte (stationOf n) = byteOf n := by
  rw [addrByte, byteOf, stationOf, Fin.val_ofNat, Nat.mod_eq_of_lt (by omega), Nat.sub_add_cancel low]

theorem stationOf_addrByte (a : StAddr) : stationOf (addrByte a).toNat = a := by
  rw [addrByte_toNat]
  exact Fin.ofNat_val_eq_self a

/-- The station field of a definition is legal for its direction (R24). -/
theorem CircuitDef.stationByte_legal (c : CircuitDef) : 1 ≤ c.ends.stationByte.toNat ∧ c.ends.stationByte.toNat ≤ 31 ∧
    (c.ends.stationByte.toNat = 31 → c.isOut = true) := by
  obtain ⟨ends, divisor, phase, slots⟩ := c
  cases ends with
  | out dest n =>
    cases dest with
    | broadcast => simp [CircuitEnds.stationByte, CircuitDef.isOut]
    | station a =>
      simp only [CircuitEnds.stationByte, addrByte_toNat]
      exact ⟨by omega, by omega, fun _ => rfl⟩
  | inn a on =>
    simp only [CircuitEnds.stationByte, addrByte_toNat]
    exact ⟨by omega, by omega, by omega⟩

namespace CarriesDefinition

variable {id : CircuitId} {c : CircuitDef}

theorem circuitOf_eq (h : CarriesDefinition p id c) : circuitOf (numAt p 0) = id := by
  rw [h.id]
  exact Fin.ofNat_val_eq_self id

theorem count (h : CarriesDefinition p id c) : c.slots.length = numAt p 5 := by
  rw [h.slots, List.length_map, List.length_range]

theorem defineEnds_eq (h : CarriesDefinition p id c) : defineEnds p = c.ends := by
  obtain ⟨-, direction, station, -, -, -, depth, filter⟩ := h
  rw [defineEnds, direction, station, depth, filter]
  obtain ⟨ends, divisor, phase, slots⟩ := c
  cases ends with
  | out dest n =>
    cases dest with
    | broadcast => rfl
    | station a =>
      have distinct : (addrByte a).toNat ≠ 31 := by rw [addrByte_toNat]; omega
      simp only [CircuitDef.isOut, CircuitDef.depth, CircuitEnds.stationByte, if_true, if_neg distinct, stationOf_addrByte]
  | inn a on =>
    cases on <;> simp [CircuitDef.isOut, CircuitDef.filterOn, CircuitEnds.stationByte, stationOf_addrByte]

theorem defineDef_eq (h : CarriesDefinition p id c) : defineDef p = c := by
  rw [defineDef, h.defineEnds_eq, h.divisor, h.phase, ← h.slots]

theorem entry_eq (h : CarriesDefinition p id c) {i : Nat} (hi : i < c.slots.length) : c.slots[i] = numAt p (6 + i) := by
  simp [h.slots]

/-- The fields of a legal definition are legal (R28). -/
theorem defineLegal (h : CarriesDefinition p id c) (legal : c.Legal) : DefineLegal p where
  id := by rw [h.id]; omega
  direction := by rw [h.direction]; cases c.isOut <;> simp
  station := by
    obtain ⟨low, high, broadcast⟩ := c.stationByte_legal
    rw [h.station, h.direction]
    exact ⟨low, high, fun h => by rw [broadcast h]; rfl⟩
  divisor := by rw [h.divisor]; exact legal.divisor
  phase := by rw [h.phase, h.divisor]; exact legal.phase
  count := by rw [← h.count]; exact legal.width
  entries n h1 hn := by
    obtain ⟨i, rfl⟩ : ∃ i, n = i + 1 := ⟨n - 1, by omega⟩
    have hi : i < c.slots.length := by rw [h.count]; omega
    rw [show 5 + (i + 1) = 6 + i by omega, ← h.entry_eq hi]
    refine ⟨legal.slots _ (List.getElem_mem hi), fun h2 => ?_⟩
    obtain ⟨j, rfl⟩ : ∃ j, i = j + 1 := ⟨i - 1, by omega⟩
    rw [show 4 + (j + 1 + 1) = 6 + j by omega, ← h.entry_eq (Nat.lt_of_succ_lt hi)]
    exact List.pairwise_iff_getElem.mp legal.ascending _ _ _ _ (Nat.lt_succ_self j)
  outFields := by
    rw [h.direction, h.depth, h.filter]
    obtain ⟨ends, divisor, phase, slots⟩ := c
    cases ends with
    | out dest n =>
      obtain ⟨low, high⟩ := legal.depth dest n rfl
      exact fun _ => ⟨low, high, rfl⟩
    | inn a on => exact fun hdir => by cases hdir
  inFields := by
    rw [h.direction, h.depth, h.filter]
    obtain ⟨ends, divisor, phase, slots⟩ := c
    cases ends with
    | out dest n => exact fun hdir => by cases hdir
    | inn a on => exact fun _ => ⟨rfl, by split <;> omega⟩

end CarriesDefinition

/-! ### The definition as READ_CIRCUIT shows it (R68, R169) -/

/-- Byte `i` of a DEFINE_CIRCUIT payload with the slot entries beyond the slot count put to 0 (R169). -/
def shownByte (p : List Byte) (i : Nat) : Byte := if 6 + numAt p 5 ≤ i ∧ i < 10 then 0 else byteAt p i

theorem shownByte_of_fixed (p : List Byte) {i : Nat} (h : i < 6 ∨ 10 ≤ i) : byteAt p i = shownByte p i := by
  rw [shownByte, if_neg (by omega)]

theorem defineDef_slot_byte (p : List Byte) {i : Nat} (h : i < 4) : byteOf ((defineDef p).slots.getD i 0) = shownByte p (6 + i) := by
  by_cases hi : i < numAt p 5
  · rw [shownByte, if_neg (by omega)]
    simp [defineDef, hi]
  · rw [shownByte, if_pos (by omega)]
    simp [defineDef, hi, byteOf]

theorem defineDef_isOut_iff (p : List Byte) : (defineDef p).isOut = true ↔ numAt p 1 = 1 := by
  by_cases hdir : numAt p 1 = 1 <;> simp [defineDef, defineEnds, CircuitDef.isOut, hdir]

namespace DefineLegal

theorem direction_byte (h : DefineLegal p) : (if (defineDef p).isOut then 1 else 2) = byteAt p 1 := by
  rw [← byteOf_numAt]
  obtain hdir | hdir := h.direction <;> simp [defineDef_isOut_iff, hdir, byteOf]

theorem station_byte (h : DefineLegal p) : (defineDef p).ends.stationByte = byteAt p 2 := by
  obtain ⟨low, high, broadcast⟩ := h.station
  rw [← byteOf_numAt]
  by_cases h31 : numAt p 2 = 31
  · simp [defineDef, defineEnds, CircuitEnds.stationByte, h31, broadcast h31, byteOf]
  · have address := addrByte_stationOf low (show numAt p 2 ≤ 30 by omega)
    by_cases hdir : numAt p 1 = 1 <;> simp [defineDef, defineEnds, CircuitEnds.stationByte, hdir, h31, address]

theorem depth_byte (h : DefineLegal p) : byteOf (defineDef p).depth = byteAt p 10 := by
  rw [← byteOf_numAt]
  obtain hdir | hdir := h.direction
  · simp [defineDef, defineEnds, CircuitDef.depth, hdir]
  · simp [defineDef, defineEnds, CircuitDef.depth, hdir, (h.inFields hdir).1]

theorem filter_byte (h : DefineLegal p) : flagByte (defineDef p).filterOn = byteAt p 11 := by
  rw [← byteOf_numAt]
  obtain hdir | hdir := h.direction
  · simp [defineDef, defineEnds, CircuitDef.filterOn, flagByte, hdir, (h.outFields hdir).2.2, byteOf]
  · have : numAt p 11 = 0 ∨ numAt p 11 = 1 := by have := (h.inFields hdir).2; omega
    obtain hf | hf := this <;> simp [defineDef, defineEnds, CircuitDef.filterOn, flagByte, hdir, hf, byteOf]

/-- The twelve bytes of the definition are those of the request, unused slot entries 0 (R68, R169). -/
theorem definitionBytes_eq (h : DefineLegal p) :
    definitionBytes (circuitOf (numAt p 0)) (defineDef p) = (List.range 12).map (shownByte p) := by
  have id : byteOf (circuitOf (numAt p 0)).val = byteAt p 0 := by
    have := h.id
    rw [← byteOf_numAt, circuitOf, Fin.val_ofNat, Nat.mod_eq_of_lt (by omega)]
  have divisor : byteOf (defineDef p).divisor = byteAt p 3 := byteOf_numAt p 3
  have phase : byteOf (defineDef p).phase = byteAt p 4 := byteOf_numAt p 4
  have width : byteOf (defineDef p).width = byteAt p 5 := by rw [CircuitDef.width, defineDef_slots_length, byteOf_numAt]
  have fixed : ∀ i, i < 6 ∨ 10 ≤ i → byteAt p i = shownByte p i := fun _ => shownByte_of_fixed p
  rw [definitionBytes, id, h.direction_byte, h.station_byte, divisor, phase, width, h.depth_byte, h.filter_byte,
    defineDef_slot_byte p (i := 0) (by omega), defineDef_slot_byte p (i := 1) (by omega), defineDef_slot_byte p (i := 2) (by omega),
    defineDef_slot_byte p (i := 3) (by omega), fixed 0 (by omega), fixed 1 (by omega), fixed 2 (by omega), fixed 3 (by omega),
    fixed 4 (by omega), fixed 5 (by omega), fixed 10 (by omega), fixed 11 (by omega)]
  rfl

end DefineLegal

/-! ### Editing requests (R29, R30, R32, R33) -/

/-- What an editing request answers: BUSY while an adoption is pending, else what its owner does. -/
theorem editDraft_pushReply (go : State → State × Answer) (s : State) :
    (editDraft go s).1.pushReply tag (editDraft go s).2 =
      if s.sched.adoptPending then s.replied tag .busy 0 [] else (go s).1.pushReply tag (go s).2 := by
  unfold editDraft
  split <;> rfl

/-! ### DEFINE_CIRCUIT (R28, R29) -/

theorem exec_defineCircuit_taken (hs : s.Takes) (hp : p.length = 12) :
    exec (.defineCircuit tag p) s = .next ((ownDefineCircuit p s).1.pushReply tag (ownDefineCircuit p s).2) := by
  have length : fixedLength 12 p = true := by simp [fixedLength, payloadFits, hp, Config.payloadLimit]
  rw [exec_defineCircuit, length, takeRequest_taken hs]

theorem eq_not_decide_iff {b : Bool} {test : Prop} [Decidable test] : b = (!decide test) ↔ (b = false ↔ test) := by
  cases b <;> simp

/-- The tests of DEFINE_CIRCUIT's fields in their order; the test of entry 1 asks nothing where the slot count is 0 (R28). -/
theorem defineFault_eq {id dir st divisor phase n e1 e2 e3 e4 depth filter : Byte} :
    defineFault [id, dir, st, divisor, phase, n, e1, e2, e3, e4, depth, filter] = firstFault (([decide (id.toNat ≤ 31),
      decide (dir = 1 ∨ dir = 2), decide (1 ≤ st.toNat ∧ st.toNat ≤ 31 ∧ (st = 31 → dir = 1)),
      decide (divisor = 1 ∨ divisor = 2 ∨ divisor = 4 ∨ divisor = 8 ∨ divisor = 16),
      decide (phase.toNat < divisor.toNat), decide (1 ≤ n.toNat ∧ n.toNat ≤ 4),
      decide (1 ≤ n.toNat → e1.toNat ≤ 63), decide (2 ≤ n.toNat → e2.toNat ≤ 63 ∧ e1.toNat < e2.toNat),
      decide (3 ≤ n.toNat → e3.toNat ≤ 63 ∧ e2.toNat < e3.toNat),
      decide (4 ≤ n.toNat → e4.toNat ≤ 63 ∧ e3.toNat < e4.toNat),
      decide (if dir = 1 then 1 ≤ depth.toNat ∧ depth.toNat ≤ 8 else depth = 0),
      decide (if dir = 1 then filter = 0 else filter.toNat ≤ 1)].zipIdx 1).map fun x => (x.2, !x.1)) := by
  simp only [defineFault, List.zipIdx_cons, List.zipIdx_nil, List.map_cons, List.map_nil, Nat.reduceAdd]
  congr 1
  simp only [List.cons.injEq, Prod.mk.injEq, true_and, and_true, eq_not_decide_iff, slotEntryFails_eq_false_iff, ite_eq_iff',
    Bool.or_eq_false_iff, Bool.and_eq_false_iff, Bool.not_eq_false', List.contains_iff_mem, decide_eq_false_iff_not,
    beq_eq_false_iff_ne, beq_iff_eq, List.mem_cons, List.not_mem_nil, or_false, BitVec.toNat_eq, numAt, byteAt,
    List.getD_cons_zero, List.getD_cons_succ, Nat.reduceAdd, BitVec.reduceToNat]
  refine ⟨by omega, by omega, by omega, by omega, by omega, by omega, by omega, by omega, by omega,
    ⟨fun h => ?_, fun h => ?_⟩, fun h => ?_, fun h => ?_⟩
  · rw [if_pos h]; omega
  · rw [if_neg h]; omega
  · rw [if_pos h]; omega
  · rw [if_neg h]; omega

/-- The payload that spells a definition, its divisor, phase and slot entries as bytes (R28, R167). -/
def definePayload (id : CircuitId) (c : CircuitDef) (divisor phase e1 e2 e3 e4 : Byte) : List Byte :=
  [BitVec.ofNat 8 id.val, if c.isOut then 1 else 2, c.ends.stationByte, divisor, phase, BitVec.ofNat 8 c.slots.length,
    e1, e2, e3, e4, BitVec.ofNat 8 c.depth, if c.filterOn then 1 else 0]

theorem CircuitDef.Legal.depth_le {c : CircuitDef} (h : c.Legal) : c.depth ≤ 8 := by
  have := h.depth
  obtain ⟨ends, divisor, phase, slots⟩ := c
  cases ends with
  | out dest n => exact (this dest n rfl).2
  | inn a on => exact Nat.zero_le _

theorem carriesDefinition_definePayload {divisor phase e1 e2 e3 e4 : Byte} {c : CircuitDef} (id : CircuitId)
    (legal : c.Legal) (hdivisor : divisor.toNat = c.divisor) (hphase : phase.toNat = c.phase)
    (hslots : c.slots = ([e1, e2, e3, e4].take c.slots.length).map BitVec.toNat) :
    CarriesDefinition (definePayload id c divisor phase e1 e2 e3 e4) id c := by
  obtain ⟨one, four⟩ := legal.width
  have depth := legal.depth_le
  have count : numAt (definePayload id c divisor phase e1 e2 e3 e4) 5 = c.slots.length := Nat.mod_eq_of_lt (by omega)
  exact {
    id := Nat.mod_eq_of_lt (by omega)
    direction := by show (ite _ _ _ : Byte).toNat = _; split <;> rfl
    station := rfl
    divisor := hdivisor
    phase := hphase
    slots := by
      rw [count]
      have cases : c.slots.length = 1 ∨ c.slots.length = 2 ∨ c.slots.length = 3 ∨ c.slots.length = 4 := by omega
      obtain h | h | h | h := cases
      all_goals rw [h] at hslots ⊢; exact hslots
    depth := Nat.mod_eq_of_lt (by omega)
    filter := by show (ite _ _ _ : Byte).toNat = _; split <;> rfl }

/-- Settles O35: the fields decide, then a pending adoption; what is stored is what the request carries. -/
theorem defineCircuitStores : Obligations.DefineCircuitStores := by
  refine ⟨fun tag divisor phase e1 e2 e3 e4 id c s hs legal hdivisor hphase hslots => ?_,
    fun tag id dir st divisor phase n e1 e2 e3 e4 depth filter k s hs hk => ?_, fun p hp hfault => ?_⟩
  · intro p
    have carries : CarriesDefinition p id c := carriesDefinition_definePayload id legal hdivisor hphase hslots
    have fault : defineFault p = none := defineFault_eq_none_iff.mpr (carries.defineLegal legal)
    rw [exec_defineCircuit_taken hs rfl, ownDefineCircuit, fault, checkFields, carries.circuitOf_eq, carries.defineDef_eq,
      editDraft_pushReply]
    cases s.sched.draft.circuits.get id <;> rfl
  · have fault : defineFault [id, dir, st, divisor, phase, n, e1, e2, e3, e4, depth, filter] = some (k + 1) := by
      rw [defineFault_eq]
      refine firstFault_zipIdx ?_ 1
      rw [← hk]
      by_cases hn : 1 ≤ n.toNat
      · simp only [hn, forall_const]
      · simp [List.findIdx?_cons, hn]
    rw [exec_defineCircuit_taken hs rfl, ownDefineCircuit, fault, checkFields, State.pushReply_refuseWith]
  · exact (defineFault_eq_none_iff.mp hfault).definitionBytes_eq

/-! ### SET_OPEN (R31, R32) -/

theorem openEntryFails_eq_false_iff (p : List Byte) (n : Nat) : openEntryFails p n = false ↔
    numAt p n ≤ 62 ∧ (2 ≤ n → numAt p (n - 1) + 2 ≤ numAt p n) := by
  simp only [openEntryFails, Bool.or_eq_false_iff, Bool.and_eq_false_iff, decide_eq_false_iff_not]
  omega

theorem setOpenList_length (p : List Byte) : (setOpenList p).length = numAt p 0 := by simp [setOpenList]

theorem setOpenList_getElem {i : Nat} (h : i < (setOpenList p).length) : (setOpenList p)[i] = numAt p (i + 1) := by
  simp [setOpenList]

/-- No field of SET_OPEN fails exactly where its list is legal and not empty (R31). -/
theorem setOpenFault_eq_none_iff : setOpenFault p = none ↔ setOpenList p ≠ [] ∧ PairsLegal (setOpenList p) := by
  simp only [setOpenFault, firstFault_eq_none_iff, List.forall_mem_cons, List.forall_mem_map, List.mem_range,
    openEntryFails_eq_false_iff, decide_eq_false_iff_not, not_or, not_lt, Nat.add_sub_cancel]
  constructor
  · rintro ⟨⟨some, most⟩, entries⟩
    refine ⟨List.ne_nil_of_length_pos (by rw [setOpenList_length]; omega), by rw [setOpenList_length]; exact most, ?_, ?_⟩
    · simp only [setOpenList, List.forall_mem_map, List.mem_range]
      exact fun i hi => (entries i hi).1
    · exact pairwise_range_map fun i hi => (entries (i + 1) hi).2 (by omega)
  · rintro ⟨nonempty, count, entries, apart⟩
    have some := List.length_pos_of_ne_nil nonempty
    rw [setOpenList_length] at count some
    refine ⟨⟨by omega, count⟩, fun i hi => ⟨?_, fun h2 => ?_⟩⟩
    · exact entries _ (List.mem_map.mpr ⟨i, List.mem_range.mpr hi, rfl⟩)
    · obtain ⟨j, rfl⟩ : ∃ j, i = j + 1 := ⟨i - 1, by omega⟩
      have hj : j + 1 < (setOpenList p).length := by rw [setOpenList_length]; exact hi
      have := List.pairwise_iff_getElem.mp apart j (j + 1) (by omega) hj (Nat.lt_succ_self j)
      rwa [setOpenList_getElem, setOpenList_getElem] at this

section
variable {count : Byte} {entries : List Byte} (h : entries.length = count.toNat)
include h

theorem setOpenList_cons : setOpenList (count :: entries) = entries.map BitVec.toNat := by
  apply List.ext_getElem
  · rw [setOpenList_length, List.length_map, h]
    rfl
  · intro i _ hi
    rw [setOpenList_getElem, List.getElem_map]
    simp [numAt, byteAt, List.getElem?_eq_getElem (show i < entries.length by simpa using hi)]

theorem exec_setOpen_taken (hs : s.Takes) (short : entries.length ≤ 251) : exec (.setOpen tag (count :: entries)) s =
    .next ((ownSetOpen (count :: entries) s).1.pushReply tag (ownSetOpen (count :: entries) s).2) := by
  have fits : payloadFits (count :: entries) = true := decide_eq_true (Nat.succ_le_succ short)
  have length : setOpenLength (count :: entries) = true := by simp [setOpenLength, fits, numAt, byteAt, h]
  rw [exec_setOpen, length, takeRequest_taken hs]

/-- The tests of SET_OPEN's fields in their order (R31). -/
theorem setOpenFault_eq : setOpenFault (count :: entries) = firstFault (((decide (1 ≤ count.toNat ∧ count.toNat ≤ 16) ::
    (List.range entries.length).map fun i => decide ((entries.getD i 0).toNat ≤ 62 ∧
      (0 < i → (entries.getD (i - 1) 0).toNat + 2 ≤ (entries.getD i 0).toNat))).zipIdx 1).map fun x => (x.2, !x.1)) := by
  have count_test : decide (numAt (count :: entries) 0 = 0 ∨ 16 < numAt (count :: entries) 0) =
      !decide (1 ≤ count.toNat ∧ count.toNat ≤ 16) := by
    simp only [eq_not_decide_iff, decide_eq_false_iff_not, numAt, byteAt, List.getD_cons_zero]
    omega
  have entry_test : ∀ i, openEntryFails (count :: entries) (i + 1) = !decide ((entries.getD i 0).toNat ≤ 62 ∧
      (0 < i → (entries.getD (i - 1) 0).toNat + 2 ≤ (entries.getD i 0).toNat)) := by
    intro i
    rw [eq_not_decide_iff, openEntryFails_eq_false_iff]
    cases i with
    | zero => simp [numAt, byteAt]
    | succ j => simp [numAt, byteAt]
  rw [setOpenFault, List.zipIdx_cons, List.map_cons, count_test]
  congr 2
  apply List.ext_getElem
  · simp [numAt, byteAt, h]
  · intro i _ _
    simp [entry_test, Nat.add_comm]

end

/-! ### DROP_CIRCUIT and REVERT (R30, R33) -/

theorem exec_dropCircuit_taken (hs : s.Takes) (id : Byte) :
    exec (.dropCircuit tag [id]) s = .next ((ownDropCircuit [id] s).1.pushReply tag (ownDropCircuit [id] s).2) := by
  rw [exec_dropCircuit, show fixedLength 1 [id] = true from rfl, takeRequest_taken hs]

theorem exec_revert_taken (hs : s.Takes) :
    exec (.revert tag []) s = .next ((ownRevert s).1.pushReply tag (ownRevert s).2) := by
  rw [exec_revert, show fixedLength 0 [] = true from rfl, takeRequest_taken hs]

theorem idFault_cons (id : Byte) : idFault [id] = if 31 < id.toNat then some 1 else none := by
  by_cases h : 31 < id.toNat <;> simp [idFault, firstFault, numAt, byteAt, h]

/-- The live schedule as a draft, none of its circuits where it is absent (R33). -/
theorem State.liveAsDraft_eq (s : State) : s.sched.liveAsDraft =
    ⟨s.liveTable.map (Option.map LiveCircuit.defn), (s.sched.live.map LiveSchedule.pairs).getD []⟩ := by
  cases h : s.sched.live with
  | some l => simp [Sched.liveAsDraft, State.liveTable, h]
  | none =>
    have empty : (Table.replicate 32 none : Table (Option LiveCircuit) 32).map (Option.map LiveCircuit.defn) =
        Table.replicate 32 none := Table.ext_get fun id => by simp
    simp [Sched.liveAsDraft, State.liveTable, h, empty]

/-- Settles O36: each request's fields decide, then a pending adoption. -/
theorem draftEdits : Obligations.DraftEdits := by
  refine ⟨fun tag id s hs => ?_, fun tag entries s hs nonempty legal => ?_, fun tag count entries k s hs hn short hk => ?_,
    fun tag s hs => ?_⟩
  · rw [exec_dropCircuit_taken hs, ownDropCircuit, idFault_cons]
    by_cases hid : 31 < id.toNat
    · rw [if_pos hid, if_pos hid]
      rfl
    · rw [if_neg hid, if_neg hid, checkFields, show circuitOf (numAt [id] 0) = Fin.ofNat 32 id.toNat from rfl,
        editDraft_pushReply]
      cases s.sched.draft.circuits.get (Fin.ofNat 32 id.toNat) with
      | none | some => rfl
  · have short : entries.length ≤ 16 := by simpa using legal.count
    have hn : entries.length = (BitVec.ofNat 8 entries.length).toNat := (Nat.mod_eq_of_lt (by omega)).symm
    have fault : setOpenFault (BitVec.ofNat 8 entries.length :: entries) = none := by
      rw [setOpenFault_eq_none_iff, setOpenList_cons hn]
      exact ⟨by simpa using nonempty, legal⟩
    rw [exec_setOpen_taken hn hs (by omega), ownSetOpen, fault, checkFields, setOpenList_cons hn, editDraft_pushReply]
    rfl
  · have fault : setOpenFault (count :: entries) = some (k + 1) := by
      rw [setOpenFault_eq hn]
      exact firstFault_zipIdx hk 1
    rw [exec_setOpen_taken hn hs short, ownSetOpen, fault, checkFields, State.pushReply_refuseWith]
  · rw [exec_revert_taken hs, ownRevert, editDraft_pushReply, State.liveAsDraft_eq]
    rfl

end Sys2Proof.Machine
end

section
/-! Definitions and open-pair lists hold legal values only, whatever row runs (R24, R25, R28, R31). -/

namespace Sys2Proof.Machine

variable {s t : State}

/-! ### What the law reads -/

theorem State.circuit_of_live {l : LiveSchedule} (h : s.sched.live = some l) (id : CircuitId) :
    s.circuit id = l.circuits.get id := by
  simp only [State.circuit, h]

/-- The law in the terms that the relations between a state and a later one speak of. -/
theorem State.definitionsLegal_iff : s.DefinitionsLegal ↔
    s.sched.draft.Legal ∧ ∀ d, s.sched.live.map LiveSchedule.asDraft = some d → d.Legal := by
  constructor
  · rintro ⟨draft, draftPairs, live, livePairs⟩
    refine ⟨⟨draft, draftPairs⟩, fun d hd => ?_⟩
    obtain ⟨l, hl, rfl⟩ := Option.map_eq_some_iff.mp hd
    refine ⟨fun id c hc => ?_, livePairs l hl⟩
    rw [LiveSchedule.asDraft, Table.get_map, Option.map_eq_some_iff] at hc
    obtain ⟨lc, hlc, rfl⟩ := hc
    exact live id lc (by rw [State.circuit_of_live hl, hlc])
  · rintro ⟨draft, live⟩
    refine ⟨draft.circuits, draft.pairs, fun id c hc => ?_, fun l hl => (live l.asDraft (by rw [hl]; rfl)).pairs⟩
    obtain ⟨l, hl⟩ := Option.isSome_iff_exists.mp (s.live_isSome_of_circuit hc)
    refine (live l.asDraft (by rw [hl]; rfl)).circuits id c.defn ?_
    rw [State.circuit_of_live hl] at hc
    rw [LiveSchedule.asDraft, Table.get_map, hc, Option.map_some]

/-- The law depends on the draft and on the definitions and pairs of the live schedule. -/
theorem State.DefinitionsLegal.congr (hs : s.DefinitionsLegal) (draft : t.sched.draft = s.sched.draft)
    (live : t.sched.live.map LiveSchedule.asDraft = s.sched.live.map LiveSchedule.asDraft) : t.DefinitionsLegal := by
  rw [State.definitionsLegal_iff, draft, live]
  exact State.definitionsLegal_iff.mp hs

theorem SameSchedule.definitionsLegal (h : SameSchedule s t) (hs : s.DefinitionsLegal) : t.DefinitionsLegal :=
  hs.congr h.draft h.live

/-! ### Drafts -/

theorem Draft.legal_empty : Draft.Legal ⟨Table.replicate 32 none, []⟩ where
  circuits id c hc := by simp at hc
  pairs := ⟨by simp, by simp, .nil⟩

/-- A legal draft in place of the draft (R29 to R33). -/
theorem State.setDraft_definitionsLegal {d : Draft} (hd : d.Legal) (hs : s.DefinitionsLegal) :
    (s.setDraft d).DefinitionsLegal :=
  State.definitionsLegal_iff.mpr ⟨hd, (State.definitionsLegal_iff.mp hs).2⟩

/-- A definition set to a legal one, or removed (R29, R30). -/
theorem State.setDefinition_definitionsLegal {id : CircuitId} {new : Option CircuitDef} (hnew : ∀ c, new = some c → c.Legal)
    (hs : s.DefinitionsLegal) : (s.setDefinition id new).DefinitionsLegal := by
  refine State.setDraft_definitionsLegal ⟨fun j c hc => ?_, hs.draftPairs⟩ hs
  rw [Table.get_set] at hc
  split at hc
  · exact hnew c hc
  · exact hs.draft j c hc

/-- The draft becomes the live schedule (R44). -/
theorem State.carryOutAdoption_definitionsLegal (hs : s.DefinitionsLegal) : s.carryOutAdoption.DefinitionsLegal := by
  have draft := (State.definitionsLegal_iff.mp hs).1
  rw [State.definitionsLegal_iff, State.carryOutAdoption_draft, State.carryOutAdoption_asDraft]
  exact ⟨draft, fun d hd => Option.some.inj hd ▸ draft⟩

theorem State.adoptWithRecord_definitionsLegal (hs : s.DefinitionsLegal) : s.adoptWithRecord.DefinitionsLegal :=
  (State.offerEvent_inner _ _).keeps.definitionsLegal (State.carryOutAdoption_definitionsLegal hs)

/-! ### Frames stopping (R9, R42) -/

theorem State.stopStep_definitionsLegal (c : StopCause) (step : StopStep) (hs : s.DefinitionsLegal) :
    (s.stopStep c step).DefinitionsLegal := by
  by_cases h : step = .adoption
  · subst h
    simp only [State.stopStep, State.adoptAtStop]
    split
    · exact State.adoptWithRecord_definitionsLegal hs
    · exact hs
  · exact (State.stopStep_keeps c h).definitionsLegal hs

theorem State.stopSteps_definitionsLegal (c : StopCause) (steps : List StopStep) (s : State) (hs : s.DefinitionsLegal) :
    (s.stopSteps c steps).DefinitionsLegal := by
  induction steps generalizing s with
  | nil => exact hs
  | cons step rest ih => exact ih _ (State.stopStep_definitionsLegal c step hs)

theorem State.stopBase_definitionsLegal (c : StopCause) (hs : s.DefinitionsLegal) : (s.stopBase c).DefinitionsLegal := by
  have stopped : (s.withPort (s.port.stopped c)).DefinitionsLegal := hs.congr rfl rfl
  have entries := (State.abandonAt_inner (s := s.withPort (s.port.stopped c)) c).trans
    (State.mapEntries_inner _ StationEntry.atFramesStopping)
  exact (entries.keeps.definitionsLegal stopped).congr rfl rfl

theorem State.framesStop_definitionsLegal (c : StopCause) (hs : s.DefinitionsLegal) : (s.framesStop c).DefinitionsLegal := by
  obtain ⟨draw, h⟩ := s.framesStop_eq c
  rw [h]
  exact State.stopSteps_definitionsLegal c _ _ (State.stopBase_definitionsLegal c hs)

/-! ### The shared operations -/

theorem State.enterRunning_definitionsLegal (hs : s.DefinitionsLegal) : s.enterRunning.DefinitionsLegal :=
  ((State.runningFrameStart_inner (s.withPort { s.port with trunk := .running })).trans
    (State.offerEvent_inner _ _)).keeps.definitionsLegal (hs.congr rfl rfl)

theorem definitionsLegal_keptByShared : KeptByShared State.DefinitionsLegal where
  keeps _ _ h hu := h.definitionsLegal hu
  entry _ _ hu := State.enterRunning_definitionsLegal hu
  adoption _ _ hu := (State.withPort_pos_keeps _).definitionsLegal (State.adoptWithRecord_definitionsLegal hu)
  stop _ c _ hu := State.framesStop_definitionsLegal c hu

/-! ### Requests with an act of their own -/

theorem ownDefineCircuit_definitionsLegal (p : List Byte) (hs : s.DefinitionsLegal) :
    (ownDefineCircuit p s).1.DefinitionsLegal := by
  refine checkFields_rec hs fun fault => editDraft_rec hs fun _ => State.setDefinition_definitionsLegal (fun c hc => ?_) hs
  exact Option.some.inj hc ▸ (defineFault_eq_none_iff.mp fault).defineDef_legal

theorem ownDropCircuit_definitionsLegal (p : List Byte) (hs : s.DefinitionsLegal) :
    (ownDropCircuit p s).1.DefinitionsLegal := by
  refine checkFields_rec hs fun _ => editDraft_rec hs fun _ => ?_
  split
  · exact hs
  · exact State.setDefinition_definitionsLegal (fun c hc => by cases hc) hs

theorem ownSetOpen_definitionsLegal (p : List Byte) (hs : s.DefinitionsLegal) : (ownSetOpen p s).1.DefinitionsLegal :=
  checkFields_rec hs fun fault => editDraft_rec hs fun _ =>
    State.setDraft_definitionsLegal ⟨hs.draft, (setOpenFault_eq_none_iff.mp fault).2⟩ hs

/-- The live schedule as a draft is legal (R33). -/
theorem State.DefinitionsLegal.liveAsDraft (hs : s.DefinitionsLegal) : s.sched.liveAsDraft.Legal := by
  cases h : s.sched.live with
  | none => simpa [Sched.liveAsDraft, h] using Draft.legal_empty
  | some l =>
    rw [Sched.liveAsDraft_of_live h]
    exact (State.definitionsLegal_iff.mp hs).2 _ (by rw [h]; rfl)

theorem ownRevert_definitionsLegal (hs : s.DefinitionsLegal) : (ownRevert s).1.DefinitionsLegal :=
  editDraft_rec hs fun _ => State.setDraft_definitionsLegal hs.liveAsDraft hs

theorem adoptValidated_definitionsLegal (pending : Bool) (hs : s.DefinitionsLegal) :
    (adoptValidated pending s).1.DefinitionsLegal := by
  unfold adoptValidated
  split
  · exact hs
  · split
    · exact hs.congr rfl rfl
    · exact State.carryOutAdoption_definitionsLegal hs

theorem ownAdopt_definitionsLegal (hs : s.DefinitionsLegal) : (ownAdopt s).1.DefinitionsLegal := by
  by_cases ht : s.port.trunk = .off
  · simp only [ownAdopt, ht]
    exact hs
  · rw [ownAdopt_of_ne_off ht]
    exact editDraft_rec hs fun _ => adoptValidated_definitionsLegal _ hs

theorem configureByState_definitionsLegal (r : ConfigRecord) (hs : s.DefinitionsLegal) :
    (configureByState r s).1.DefinitionsLegal := by
  have installed : (s.install r).DefinitionsLegal := hs.congr rfl rfl
  unfold configureByState
  split
  · exact hs
  · exact hs
  · exact hs
  · exact installed
  · split
    · exact hs
    · exact installed

theorem ownStart_definitionsLegal (hs : s.DefinitionsLegal) : (ownStart s).1.DefinitionsLegal := by
  obtain same | started := ownStart_cases s
  · rw [same]; exact hs
  · rw [started]; exact hs.congr rfl rfl

theorem ownStop_definitionsLegal (hs : s.DefinitionsLegal) : (ownStop s).1.DefinitionsLegal := by
  have stopped : s.stopRunning.DefinitionsLegal := by
    unfold State.stopRunning
    split
    · exact State.framesStop_definitionsLegal .stop hs
    · exact hs.congr rfl rfl
  unfold ownStop
  split
  · exact hs
  · exact hs
  · exact hs.congr rfl rfl
  · exact stopped
  · exact stopped

theorem ownStatus_definitionsLegal (p : List Byte) (hs : s.DefinitionsLegal) : (ownStatus p s).1.DefinitionsLegal := by
  refine checkFields_rec hs fun _ => ?_
  dsimp only
  split
  · exact hs.congr rfl rfl
  · exact hs

/-! ### Rows outside the shared operations -/

theorem State.startFrame_definitionsLegal (hs : s.DefinitionsLegal) : s.startFrame.DefinitionsLegal := by
  have opened : (s.withPort (s.port.startFrame s.sched.adoptPending)).DefinitionsLegal := hs.congr rfl rfl
  simp only [State.startFrame]
  split
  · exact (State.runningFrameStart_inner _).keeps.definitionsLegal opened
  · exact opened

/-- Every block at its reset values (R23). -/
theorem State.resetBlocks_definitionsLegal (l : Link) : (s.resetBlocks l).DefinitionsLegal :=
  State.definitionsLegal_iff.mpr ⟨Draft.legal_empty, fun d hd => by cases hd⟩

theorem State.endReply_definitionsLegal (hs : s.DefinitionsLegal) : s.endReply.DefinitionsLegal := by
  simp only [State.endReply]
  split
  · exact State.resetBlocks_definitionsLegal _
  · exact hs.congr rfl rfl

/-- Settles O12: the shared operations keep the law, and so does each row with an act of its own. -/
theorem definitionsLegalKept : Obligations.DefinitionsLegalKept := by
  intro c s t hs h
  have hP := definitionsLegal_keptByShared
  cases hown : hasOwnAct c with
  | false => exact hP.exec hown hs h
  | true =>
    cases c with
    | status tag p =>
      exact hP.takeRequest ((exec_status s tag p).symm.trans h) (fun _ _ hu => ownStatus_definitionsLegal p hu) hs
    | configure tag p =>
      exact hP.takeRequest ((exec_configure s tag p).symm.trans h)
        (fun _ _ hu => checkFields_rec hu fun _ => configureByState_definitionsLegal _ hu) hs
    | start tag p =>
      exact hP.takeRequest ((exec_start s tag p).symm.trans h) (fun _ _ hu => ownStart_definitionsLegal hu) hs
    | stop tag p =>
      exact hP.takeRequest ((exec_stop s tag p).symm.trans h) (fun _ _ hu => ownStop_definitionsLegal hu) hs
    | defineCircuit tag p =>
      exact hP.takeRequest ((exec_defineCircuit s tag p).symm.trans h)
        (fun _ _ hu => ownDefineCircuit_definitionsLegal p hu) hs
    | dropCircuit tag p =>
      exact hP.takeRequest ((exec_dropCircuit s tag p).symm.trans h) (fun _ _ hu => ownDropCircuit_definitionsLegal p hu) hs
    | setOpen tag p =>
      exact hP.takeRequest ((exec_setOpen s tag p).symm.trans h) (fun _ _ hu => ownSetOpen_definitionsLegal p hu) hs
    | adopt tag p =>
      exact hP.takeRequest ((exec_adopt s tag p).symm.trans h) (fun _ _ hu => ownAdopt_definitionsLegal hu) hs
    | revert tag p =>
      exact hP.takeRequest ((exec_revert s tag p).symm.trans h) (fun _ _ hu => ownRevert_definitionsLegal hu) hs
    | frameStart =>
      exact hP.onEvent ((exec_frameStart s).symm.trans h) (fun _ _ hu => State.startFrame_definitionsLegal hu) hs
    | replySent =>
      exact hP.onEvent ((exec_replySent s).symm.trans h) (fun _ _ hu => State.endReply_definitionsLegal hu) hs
    | powerOnReset pinLow rate1 rate0 =>
      obtain rfl := Host.Outcome.next.inj h
      exact State.resetBlocks_definitionsLegal _
    | resetPinRelease rate1 rate0 =>
      obtain rfl := Host.Outcome.next.inj h
      split
      · exact hs
      · exact State.resetBlocks_definitionsLegal _
      · exact State.resetBlocks_definitionsLegal _
    | _ => cases hown

end Sys2Proof.Machine
end

section
/-! The three laws of live circuits, the queue's (R56), the run state's (R51) and the unit's (R54), kept by every operation on
circuits, stations, transactions and batch items, by adoptions, and by frames stopping. -/

namespace Sys2Proof.Machine

variable {s t u : State} {id : CircuitId} {c c₀ : LiveCircuit} {old new : Table StationEntry 30}

/-! ### One circuit -/

/-- The run state that a definition asks for depends on whether stations are fit, and on nothing else of them (R51). -/
theorem CircuitDef.newRunState_congr (fit : ∀ a, (new.get a).state.fit = (old.get a).state.fit) (c : CircuitDef) :
    c.newRunState new = c.newRunState old := by
  unfold CircuitDef.newRunState
  cases c.station? with
  | none => rfl
  | some a => simp only [fit a]

/-- The three laws, read at one circuit (R51, R54, R56). -/
structure LiveCircuit.Lawful (entries : Table StationEntry 30) (c : LiveCircuit) : Prop where
  queue : c.run.queue.length ≤ c.defn.depth
  runState : c.run.runState = c.defn.newRunState entries
  unit : c.run.runState = .stalled → c.run.flight = none ∧ c.run.assembly = none

/-- The three laws, read at one circuit while the station entries pass from `old` to `new`: `d` has them where `c` had them
(R51, R54, R56). -/
structure LiveCircuit.LawsPass (old new : Table StationEntry 30) (c d : LiveCircuit) : Prop where
  queue : c.run.queue.length ≤ c.defn.depth → d.run.queue.length ≤ d.defn.depth
  runState : c.run.runState = c.defn.newRunState old → d.run.runState = d.defn.newRunState new
  unit : (c.run.runState = .stalled → c.run.flight = none ∧ c.run.assembly = none) →
    d.run.runState = .stalled → d.run.flight = none ∧ d.run.assembly = none

/-- A circuit's work goes on: its run state stays, its queue does not grow, and a STALLED circuit takes up no unit. -/
structure CircuitRun.GoesOn (r r' : CircuitRun) : Prop where
  runState : r'.runState = r.runState
  queue : r'.queue.length ≤ r.queue.length
  idle : r.runState = .stalled → r.flight = none ∧ r.assembly = none → r'.flight = none ∧ r'.assembly = none

/-- Work that leaves the unit in flight and the assembly as they are. -/
theorem CircuitRun.GoesOn.of_units {r r' : CircuitRun} (runState : r'.runState = r.runState)
    (queue : r'.queue.length ≤ r.queue.length) (flight : r'.flight = r.flight) (assembly : r'.assembly = r.assembly) :
    r.GoesOn r' :=
  ⟨runState, queue, fun _ h => by rwa [flight, assembly]⟩

/-- Work of a RUNNING circuit. -/
theorem CircuitRun.GoesOn.of_running {r r' : CircuitRun} (running : r.runState = .running)
    (runState : r'.runState = r.runState) (queue : r'.queue.length ≤ r.queue.length) : r.GoesOn r' :=
  ⟨runState, queue, fun stalled => by rw [running] at stalled; cases stalled⟩

/-- Work that ends a unit, or goes on with the one there is. -/
theorem CircuitRun.GoesOn.of_unit {r r' : CircuitRun} (runState : r'.runState = r.runState)
    (queue : r'.queue.length ≤ r.queue.length) (flight : r.flight = none → r'.flight = none)
    (assembly : r.assembly = none → r'.assembly = none) : r.GoesOn r' :=
  ⟨runState, queue, fun _ ⟨hf, ha⟩ => ⟨flight hf, assembly ha⟩⟩

theorem CircuitRun.GoesOn.lawsPass {r : CircuitRun} (fit : ∀ a, (new.get a).state.fit = (old.get a).state.fit)
    (h : c.run.GoesOn r) : LiveCircuit.LawsPass old new c { c with run := r } where
  queue hq := h.queue.trans hq
  runState hr := by rw [h.runState, hr, CircuitDef.newRunState_congr fit]
  unit hu hs := h.idle (h.runState ▸ hs) (hu (h.runState ▸ hs))

theorem LiveCircuit.LawsPass.refl (fit : ∀ a, (new.get a).state.fit = (old.get a).state.fit) (c : LiveCircuit) :
    LawsPass old new c c :=
  CircuitRun.GoesOn.lawsPass fit ⟨rfl, le_rfl, fun _ h => h⟩

theorem CircuitRun.abandon_goesOn (c : LiveCircuit) : c.run.GoesOn c.abandon.run := ⟨rfl, le_rfl, fun _ _ => ⟨rfl, rfl⟩⟩

/-- A circuit that follows its station has the run state the law asks for, and no unit if it stalls (R51 to R53). -/
theorem LiveCircuit.follow_lawsPass {a : StAddr} (station : c.defn.station? = some a) :
    LawsPass old new c (c.follow (new.get a).state.fit) where
  queue hq := by rwa [LiveCircuit.follow_queue, LiveCircuit.follow_defn]
  runState _ := by
    rw [LiveCircuit.follow_runState, LiveCircuit.follow_defn]
    simp only [CircuitDef.newRunState, station]
  unit hu hs := by
    cases fit : (new.get a).state.fit with
    | true => rw [fit, LiveCircuit.follow_runState] at hs; cases hs
    | false =>
      rw [LiveCircuit.follow_false]
      cases hr : c.run.runState with
      | running => exact c.stall_empty
      | stalled => exact hu hr

/-! ### All circuits -/

/-- The three laws of live circuits hold of `t` where they hold of `s`, each by itself (R51, R54, R56). -/
structure CircuitLawsKept (s t : State) : Prop where
  queue : s.QueueLaw → t.QueueLaw
  runState : s.RunStateLaw → t.RunStateLaw
  unit : s.UnitLaw → t.UnitLaw

namespace CircuitLawsKept

theorem refl (s : State) : CircuitLawsKept s s := ⟨fun h => h, fun h => h, fun h => h⟩

theorem trans (h : CircuitLawsKept s t) (h' : CircuitLawsKept t u) : CircuitLawsKept s u where
  queue hs := h'.queue (h.queue hs)
  runState hs := h'.runState (h.runState hs)
  unit hs := h'.unit (h.unit hs)

/-- Every live circuit has the laws by itself, or comes from one from which they pass on. -/
theorem of_new_or_old (h : ∀ id d, t.circuit id = some d → d.Lawful t.roster.entries ∨
    ∃ c, s.circuit id = some c ∧ c.LawsPass s.roster.entries t.roster.entries d) : CircuitLawsKept s t where
  queue hs id d hd := by
    obtain new | ⟨c, hc, pass⟩ := h id d hd
    · exact new.queue
    · exact pass.queue (hs id c hc)
  runState hs id d hd := by
    obtain new | ⟨c, hc, pass⟩ := h id d hd
    · exact new.runState
    · exact pass.runState (hs id c hc)
  unit hs id d hd := by
    obtain new | ⟨c, hc, pass⟩ := h id d hd
    · exact new.unit
    · exact pass.unit (hs id c hc)

/-- Every live circuit comes from one from which the laws pass on. -/
theorem of_circuits (h : ∀ id d, t.circuit id = some d →
    ∃ c, s.circuit id = some c ∧ c.LawsPass s.roster.entries t.roster.entries d) : CircuitLawsKept s t :=
  of_new_or_old fun id d hd => .inr (h id d hd)

/-- Work that leaves the live schedule and the fitness of stations alone. -/
theorem of_live (live : t.sched.live = s.sched.live) (fit : ∀ a, (t.entry a).state.fit = (s.entry a).state.fit) :
    CircuitLawsKept s t := by
  refine of_circuits fun id d hd => ⟨d, ?_, .refl fit d⟩
  rw [← hd]
  simp only [State.circuit, live]

/-- Work that leaves the live schedule and the station entries alone. -/
theorem of_eq (live : t.sched.live = s.sched.live) (entries : t.roster.entries = s.roster.entries) :
    CircuitLawsKept s t :=
  of_live live fun a => by rw [State.entry, entries]; rfl

/-- Without a live schedule the laws hold (R23). -/
theorem of_none (live : t.sched.live = none) : CircuitLawsKept s t := by
  refine of_circuits fun id d hd => ?_
  simp [State.circuit, live] at hd

end CircuitLawsKept

variable (s)

/-! ### Stations and transactions -/

theorem State.onDelivery_lawsKept (f : Delivery → Delivery) : CircuitLawsKept s (s.onDelivery f) := .of_eq rfl rfl

theorem State.setEntry_lawsKept {a : StAddr} {e : StationEntry} (fit : e.state.fit = (s.entry a).state.fit) :
    CircuitLawsKept s (s.setEntry a e) := by
  refine .of_live rfl fun b => ?_
  rw [State.entry_setEntry]
  split
  · next h => rw [← h, fit]
  · rfl

theorem State.setMarker_lawsKept (a : StAddr) (m : Option Marker) : CircuitLawsKept s (s.setMarker a m) :=
  s.setEntry_lawsKept rfl

theorem State.mapEntries_lawsKept {f : StationEntry → StationEntry} (fit : ∀ e, (f e).state.fit = e.state.fit) :
    CircuitLawsKept s (s.mapEntries f) :=
  .of_live rfl fun a => by rw [State.entry_mapEntries, fit]

theorem State.completeHost_lawsKept (r : HostRecord) (o : TxnOutcome) (reason : Byte) (data : List Byte) :
    CircuitLawsKept s (s.completeHost r o reason data) :=
  .of_live (by rw [State.completeHost_sched]) fun a => by rw [State.completeHost_entry]; split <;> rfl

theorem State.completeAll_lawsKept (o : TxnOutcome) (rs : List HostRecord) : CircuitLawsKept s (s.completeAll o rs) :=
  .of_live (by rw [State.completeAll_sched]) fun a => by rw [State.completeAll_entry]

theorem State.examine_lawsKept (rs : List HostRecord) (s : State) : CircuitLawsKept s (s.examine rs).1 := by
  induction rs generalizing s with
  | nil => exact .refl s
  | cons r rest ih =>
    unfold State.examine
    split
    · split
      · exact .refl s
      · exact ih s
    · exact ih s
    · split
      · exact (s.completeHost_lawsKept r _ 0 []).trans (ih _)
      · split
        · exact .refl s
        · exact ih s

theorem State.issueRequest_lawsKept (user : PairUser) (m : Marker) (r : TxnRequest) (a : Attempt) :
    CircuitLawsKept s (s.issueRequest user m r a) := by
  have token : CircuitLawsKept s (s.takeToken r.station m) := by
    refine .trans ?_ (State.setMarker_lawsKept _ r.station (some m))
    exact .of_eq rfl rfl
  simp only [State.issueRequest]
  split
  · exact .of_eq rfl rfl
  · exact token.trans (.of_eq rfl rfl)

/-! ### The batch unit -/

section
variable (l : BatchList) (r : BatchRun)

theorem State.runPasses_lawsKept (n : Nat) : CircuitLawsKept s (s.runPasses n l r) :=
  have ⟨_, sched, roster, _⟩ := State.runPasses_frame n l r s
  .of_eq (by rw [sched]) (by rw [roster])

theorem State.endPass_lawsKept (cause : EndCause) (oc : List (Option ItemOutcome)) :
    CircuitLawsKept s (s.endPass l r cause oc) :=
  .of_eq (by rw [State.endPass_sched]) (by rw [State.endPass_roster])

theorem State.clearItem_lawsKept (c : CurrentItem) : CircuitLawsKept s (s.clearItem l c) := by
  unfold State.clearItem
  split
  · split
    · exact s.setMarker_lawsKept _ _
    · exact .refl s
  · exact .refl s

theorem State.endItem_lawsKept (c : CurrentItem) (o : ItemOutcome) : CircuitLawsKept s (s.endItem l r c o) := by
  rw [State.endItem_eq]
  refine (s.clearItem_lawsKept l c).trans ?_
  obtain ⟨-, sched, roster, -⟩ := State.continueRun_frame (s.clearItem l c) l r
    (afterItem l r (s.clearItem l c).roster.entries c.index o.outcome (r.outcomes.set (c.index - 1) (some o)))
  exact .of_eq (by rw [sched]) (by rw [roster])

theorem State.answerItem_lawsKept (c : CurrentItem) (j : Judgement) : CircuitLawsKept s (s.answerItem l r c j) := by
  unfold State.answerItem
  split
  · exact s.endItem_lawsKept l r c _
  · exact s.endItem_lawsKept l r c _
  · exact s.endItem_lawsKept l r c _
  · split
    · exact s.endItem_lawsKept l r c _
    · exact .of_eq rfl rfl

end

theorem State.cascadeBatch_lawsKept (a : StAddr) (o : TxnOutcome) : CircuitLawsKept s (s.cascadeBatch a o) := by
  by_cases h : ∃ l r c, s.ItemAt a l r c
  · obtain ⟨l, r, c, item⟩ := h
    rw [State.cascadeBatch_of_itemAt item]
    exact s.endItem_lawsKept l r c _
  · rw [State.cascadeBatch_none fun l r c item => h ⟨l, r, c, item⟩]
    exact .refl s

theorem State.takeRoom_lawsKept : CircuitLawsKept s s.takeRoom := by
  unfold State.takeRoom
  split
  · exact .refl s
  · exact .refl s
  · split
    · refine .trans ?_ (State.endPass_lawsKept _ _ _ _ _)
      exact .of_eq rfl rfl
    · exact s.runPasses_lawsKept _ _ _

theorem State.stopBatch_lawsKept (o : TxnOutcome) (cause : EndCause) : CircuitLawsKept s (s.stopBatch o cause) := by
  unfold State.stopBatch
  split
  · exact .refl s
  · exact .refl s
  · split
    · split
      · exact .refl s
      · exact .of_eq rfl rfl
    · split
      · exact s.endItem_lawsKept _ _ _ _
      · exact .refl s

/-- Frames since heard, due records and the due item (R76, R101, R127). -/
theorem State.runningFrameStart_lawsKept : CircuitLawsKept s s.runningFrameStart := by
  rw [State.runningFrameStart_eq]
  refine (s.mapEntries_lawsKept (f := StationEntry.advance) fun e => ?_).trans (.of_eq rfl rfl)
  rw [StationEntry.advance_sinceHeard]

/-! ### One circuit replaced -/

variable {s} in
/-- A circuit of the table replaced by one to which the laws pass on. -/
theorem State.setCircuit_lawsPass (h : s.circuit id = some c)
    (pass : c.LawsPass s.roster.entries s.roster.entries c₀) : CircuitLawsKept s (s.setCircuit id c₀) := by
  refine .of_circuits fun j d hd => ?_
  rw [State.circuit_setCircuit _ h] at hd
  rw [State.setCircuit_roster]
  split at hd
  · next hj =>
    obtain rfl := Option.some.inj hd
    exact ⟨c, hj ▸ h, pass⟩
  · exact ⟨d, hd, .refl (fun _ => rfl) d⟩

variable {s} in
theorem State.rehold_lawsPass (h : s.circuit id = some c)
    (pass : c.LawsPass s.roster.entries s.roster.entries c₀) : CircuitLawsKept s (s.rehold id c₀) := by
  rw [State.rehold_of_circuit h]
  exact (State.setCircuit_lawsPass h pass).trans (.of_eq rfl rfl)

section
variable {s} {r : CircuitRun} (h : s.circuit id = some c) (on : c.run.GoesOn r)
include h on

theorem State.setCircuit_lawsKept : CircuitLawsKept s (s.setCircuit id { c with run := r }) :=
  State.setCircuit_lawsPass h (on.lawsPass fun _ => rfl)

theorem State.rehold_lawsKept : CircuitLawsKept s (s.rehold id { c with run := r }) :=
  State.rehold_lawsPass h (on.lawsPass fun _ => rfl)

end

theorem State.raiseLoss_lawsKept (id : CircuitId) (cause : LossCause) : CircuitLawsKept s (s.raiseLoss id cause) := by
  cases h : s.circuit id with
  | none => simp only [State.raiseLoss, h]; exact .refl s
  | some c =>
    rw [State.raiseLoss_of_circuit h]
    have flagged : CircuitLawsKept s (s.setCircuit id { c with run := { c.run with lossReported := true } }) :=
      State.setCircuit_lawsKept h (.of_units rfl le_rfl rfl rfl)
    exact flagged.trans (.of_eq rfl rfl)

section
variable {s} (h : s.circuit id = some c)
include h

theorem State.beginOut_lawsKept (running : c.run.runState = .running) : CircuitLawsKept s (s.beginOut id c) := by
  unfold State.beginOut
  split
  · next u rest hq => exact State.rehold_lawsKept h (.of_running running rfl (by simp [hq]))
  · next hq =>
    refine .trans ?_ (State.raiseLoss_lawsKept _ _ _)
    exact State.rehold_lawsKept h (.of_running running rfl le_rfl)

theorem State.beginIn_lawsKept (running : c.run.runState = .running) : CircuitLawsKept s (s.beginIn id c) := by
  simp only [State.beginIn]
  split
  · exact State.rehold_lawsKept h (.of_running running rfl le_rfl)
  · refine .trans ?_ (State.raiseLoss_lawsKept _ _ _)
    exact State.rehold_lawsKept h (.of_running running rfl le_rfl)

theorem State.decideDelivery_lawsKept (status : List SlotStatus) (bufs : List Buf) :
    CircuitLawsKept s (s.decideDelivery id c status bufs) := by
  unfold State.decideDelivery
  split
  · split
    · refine .trans ?_ (State.onDelivery_lawsKept _ _)
      exact State.setCircuit_lawsKept h (.of_unit rfl le_rfl (fun hf => hf) fun _ => rfl)
    · refine .trans ?_ (State.raiseLoss_lawsKept _ _ _)
      exact State.rehold_lawsKept h (.of_unit rfl le_rfl (fun hf => hf) fun _ => rfl)
  · exact State.rehold_lawsKept h (.of_unit rfl le_rfl (fun hf => hf) fun _ => rfl)

end

theorem State.closeOut_lawsKept (id : CircuitId) (position : Nat) : CircuitLawsKept s (s.closeOut id position) := by
  unfold State.closeOut
  split
  · exact .refl s
  · next c h =>
    split
    · exact .refl s
    · next f hf =>
      split
      · split
        · exact State.rehold_lawsKept h (.of_unit rfl le_rfl (fun _ => rfl) fun ha => ha)
        · exact State.rehold_lawsKept h (.of_unit rfl le_rfl (fun _ => rfl) fun ha => ha)
      · exact State.setCircuit_lawsKept h (.of_unit rfl le_rfl (fun none => by rw [hf] at none; cases none) fun ha => ha)

theorem State.endAssembly_lawsKept (id : CircuitId) : CircuitLawsKept s (s.endAssembly id) := by
  unfold State.endAssembly
  split
  · exact .refl s
  · next c h => exact State.rehold_lawsKept h (.of_unit rfl le_rfl (fun hf => hf) fun _ => rfl)

theorem State.finishHeardUnit_lawsKept (id : CircuitId) : CircuitLawsKept s (s.finishHeardUnit id) := by
  unfold State.finishHeardUnit
  split
  · exact .refl s
  · next c h =>
    split
    · exact .refl s
    · split
      · exact s.endAssembly_lawsKept id
      · exact State.decideDelivery_lawsKept h _ _

theorem State.clearCircuit_lawsKept (id : CircuitId) (counters : Bool) : CircuitLawsKept s (s.clearCircuit id counters) := by
  unfold State.clearCircuit
  split
  · exact .refl s
  · next c h => exact State.setCircuit_lawsKept h (.of_units rfl le_rfl rfl rfl)

/-! ### Circuits that follow their station, and units given up (R51 to R53, R70) -/

/-- A station's state changes and its circuits follow: whatever the new state is, they have the run state it asks for (R51). -/
theorem State.setEntry_followStation_lawsKept (a : StAddr) (e : StationEntry) :
    CircuitLawsKept s ((s.setEntry a e).followStation a) := by
  refine .of_circuits fun id d hd => ?_
  rw [State.followStation_eq, State.circuit_mapLive, Option.map_eq_some_iff] at hd
  obtain ⟨c, hc, rfl⟩ := hd
  refine ⟨c, hc, ?_⟩
  rw [State.followStation_eq, State.mapLive_roster]
  split
  · next station => exact LiveCircuit.follow_lawsPass station
  · next station =>
    have elsewhere : c.defn.newRunState (s.setEntry a e).roster.entries = c.defn.newRunState s.roster.entries := by
      unfold CircuitDef.newRunState
      cases hb : c.defn.station? with
      | none => rfl
      | some b =>
        have away : a ≠ b := fun h => station (h ▸ hb)
        have other : (s.setEntry a e).entry b = s.entry b := by rw [State.entry_setEntry, if_neg away]
        exact congrArg (fun e : StationEntry => if e.state.fit then RunState.running else RunState.stalled) other
    exact ⟨fun h => h, fun h => h.trans elsewhere.symm, fun h => h⟩

theorem State.abandonUnits_lawsKept : CircuitLawsKept s s.abandonUnits := by
  refine .of_circuits fun id d hd => ?_
  rw [State.abandonUnits, State.circuit_mapLive, Option.map_eq_some_iff] at hd
  obtain ⟨c, hc, rfl⟩ := hd
  rw [State.abandonUnits, State.mapLive_roster]
  exact ⟨c, hc, (CircuitRun.abandon_goesOn c).lawsPass fun _ => rfl⟩

/-! ### Reports, loss and identity of a station (R74, R75, R81 to R84, R87) -/

theorem State.cascadeHost_lawsKept (a : StAddr) (o : TxnOutcome) : CircuitLawsKept s (s.cascadeHost a o).1 := by
  simp only [State.cascadeHost]
  refine .trans ?_ (State.completeAll_lawsKept _ o _)
  split
  · exact s.completeHost_lawsKept _ o 0 []
  · exact .refl s

theorem State.excludeNow_lawsKept (a : StAddr) : CircuitLawsKept s (s.excludeNow a).1 :=
  ((s.setEntry_followStation_lawsKept a _).trans (State.cascadeHost_lawsKept _ a _)).trans
    (State.cascadeBatch_lawsKept _ a _)

theorem State.loseStation_lawsKept (a : StAddr) : CircuitLawsKept s (s.loseStation a) :=
  (((s.setEntry_followStation_lawsKept a _).trans (State.cascadeHost_lawsKept _ a _)).trans
    (State.cascadeBatch_lawsKept _ a _)).trans (.of_eq rfl rfl)

theorem State.heard_lawsKept (a : StAddr) : CircuitLawsKept s (s.heard a) := by
  simp only [State.heard]
  split
  · exact s.setEntry_lawsKept rfl
  · exact s.setEntry_lawsKept rfl
  · next faulty => exact (s.setEntry_lawsKept (by rw [faulty]; rfl)).trans (.of_eq rfl rfl)
  all_goals exact .refl s

theorem State.missed_lawsKept (a : StAddr) : CircuitLawsKept s (s.missed a) := by
  have counted : CircuitLawsKept s (s.countMiss a) := by
    simp only [State.countMiss]
    split
    · refine .trans ?_ (State.loseStation_lawsKept _ a)
      exact s.setEntry_lawsKept rfl
    · split
      · next h => exact (s.setEntry_lawsKept (a := a) (by rw [h.2]; rfl)).trans (.of_eq rfl rfl)
      · exact s.setEntry_lawsKept rfl
  unfold State.missed
  cases (s.entry a).state
  case found | active | faulty => exact counted
  all_goals exact .refl s

theorem State.report_lawsKept (a : StAddr) (j : Judgement) : CircuitLawsKept s (s.report a j) := by
  cases j with
  | good p => exact s.heard_lawsKept a
  | bad => exact s.missed_lawsKept a
  | silent => exact s.missed_lawsKept a

theorem State.identified_lawsKept (a : StAddr) (i : Identity) : CircuitLawsKept s (s.identified a i) := by
  have found : ∀ b, (s.entry a).state.fit = false →
      CircuitLawsKept s ((s.setEntry a ((s.entry a).becomeFound i)).stationEvent a .found b (some i)) :=
    fun b unfit => (s.setEntry_lawsKept (by rw [unfit]; rfl)).trans (.of_eq rfl rfl)
  simp only [State.identified]
  split
  · next absent => exact found _ (by rw [absent]; rfl)
  · next lost =>
    split
    · split
      · exact (s.setEntry_followStation_lawsKept a _).trans (.of_eq rfl rfl)
      · exact found _ (by rw [lost]; rfl)
    · exact found _ (by rw [lost]; rfl)
  all_goals exact .refl s

/-! ### Adoption (R44 to R47) -/

theorem CircuitDef.makeNew_lawful (entries : Table StationEntry 30) (d : CircuitDef) :
    (d.makeNew entries).Lawful entries :=
  ⟨Nat.zero_le _, rfl, fun _ => ⟨rfl, rfl⟩⟩

theorem CircuitDef.depth_of_inn {d : CircuitDef} (h : d.isOut = false) : d.depth = 0 := by
  unfold CircuitDef.isOut at h
  unfold CircuitDef.depth
  cases he : d.ends with
  | out x n => rw [he] at h; cases h
  | inn a f => rfl

/-- A circuit that is kept has the station it had, and a queue within its new depth; its units stay (R47). -/
theorem LiveCircuit.keep_lawsPass {d : CircuitDef} (h : c.defn.sameEnds d = true) :
    c.LawsPass old old (c.keep d) := by
  obtain ⟨isOut, station⟩ := (c.defn.sameEnds_iff d).mp h
  have runState : c.defn.newRunState old = d.newRunState old := by simp only [CircuitDef.newRunState, station]
  unfold LiveCircuit.keep
  split
  · exact ⟨fun _ => Nat.zero_le _, fun hr => hr.trans runState, fun hu => hu⟩
  · split
    · exact ⟨fun _ => List.length_take_le _ _, fun hr => hr.trans runState, fun hu => hu⟩
    · next inn =>
      have inn : d.isOut = false := by simpa using inn
      refine ⟨fun hq => ?_, fun hr => hr.trans runState, fun hu => hu⟩
      rwa [CircuitDef.depth_of_inn (isOut ▸ inn), ← CircuitDef.depth_of_inn inn] at hq

theorem State.circuit_carryOutAdoption (id : CircuitId) : s.carryOutAdoption.circuit id =
    adoptId s.roster.entries (s.circuit id) (s.sched.draft.circuits.get id) := by
  rw [State.circuit_of_live s.carryOutAdoption_live, State.circuit_eq_liveTable]
  exact Table.get_ofFn _ id

/-- Each id of the draft is made new or kept (R44). -/
theorem State.carryOutAdoption_lawsKept : CircuitLawsKept s s.carryOutAdoption := by
  refine .of_new_or_old fun id d hd => ?_
  rw [State.circuit_carryOutAdoption] at hd
  rw [State.carryOutAdoption_roster]
  cases draft : s.sched.draft.circuits.get id with
  | none => rw [draft, adoptId] at hd; cases hd
  | some new =>
    cases hc : s.circuit id with
    | none =>
      rw [draft, hc] at hd
      obtain rfl := Option.some.inj hd
      exact .inl (new.makeNew_lawful _)
    | some c =>
      rw [draft, hc] at hd
      obtain rfl := Option.some.inj hd
      split
      · next ends => exact .inr ⟨c, rfl, LiveCircuit.keep_lawsPass ends⟩
      · exact .inl (new.makeNew_lawful _)

theorem State.adoptWithRecord_lawsKept : CircuitLawsKept s s.adoptWithRecord :=
  s.carryOutAdoption_lawsKept.trans (State.onDelivery_lawsKept _ _)

/-! ### Frames stopping (R9) -/

theorem State.stopStep_lawsKept (cause : StopCause) (step : StopStep) : CircuitLawsKept s (s.stopStep cause step) := by
  cases step with
  | trunkRecord => exact s.onDelivery_lawsKept _
  | adoption =>
    simp only [State.stopStep, State.adoptAtStop]
    split
    · exact s.adoptWithRecord_lawsKept
    · exact .refl s
  | batchEnd => exact s.stopBatch_lawsKept _ _
  | complete r => exact s.completeHost_lawsKept r _ 0 []

theorem State.stopSteps_lawsKept (cause : StopCause) (steps : List StopStep) (s : State) :
    CircuitLawsKept s (s.stopSteps cause steps) := by
  induction steps generalizing s with
  | nil => exact .refl s
  | cons step rest ih => exact (s.stopStep_lawsKept cause step).trans (ih _)

theorem State.stopBase_lawsKept (cause : StopCause) : CircuitLawsKept s (s.stopBase cause) := by
  have stopped : CircuitLawsKept s (s.withPort (s.port.stopped cause)) := .of_eq rfl rfl
  have abandoned : CircuitLawsKept s ((s.withPort (s.port.stopped cause)).abandonAt cause) := by
    cases cause with
    | stop => exact stopped
    | halt p => exact stopped.trans (State.abandonUnits_lawsKept _)
  exact (abandoned.trans (State.mapEntries_lawsKept _ StationEntry.atFramesStopping_fit)).trans (.of_eq rfl rfl)

theorem State.framesStop_lawsKept (cause : StopCause) : CircuitLawsKept s (s.framesStop cause) := by
  obtain ⟨draw, h⟩ := s.framesStop_eq cause
  rw [h]
  exact (s.stopBase_lawsKept cause).trans (State.stopSteps_lawsKept cause _ _)

end Sys2Proof.Machine
end

section
/-! The three laws of live circuits, kept by every row: O8, O9 and O10. -/

namespace Sys2Proof.Machine

variable {s t : State} {tag : Byte}

/-! ### Slots open (R14, R58, R62, R95) -/

theorem State.withPort_lawsKept (s : State) (p : Port) : CircuitLawsKept s (s.withPort p) := .of_eq rfl rfl

theorem State.withLink_lawsKept (s : State) (l : Link) : CircuitLawsKept s (s.withLink l) := .of_eq rfl rfl

theorem State.setBatch_lawsKept (s : State) (b : BatchState) : CircuitLawsKept s (s.setBatch b) := .of_eq rfl rfl

section
variable (s : State)

theorem State.issueHost_lawsKept (r : HostRecord) : CircuitLawsKept s (s.issueHost r) :=
  (s.issueRequest_lawsKept (.hostRecord r.tag) ⟨.host, r.tag⟩ r.request r.attempt).trans (.of_eq rfl rfl)

theorem State.issueBatch_lawsKept (l : BatchList) (r : BatchRun) (c : CurrentItem) (it : TxnRequest) :
    CircuitLawsKept s (s.issueBatch l r c it) :=
  (s.issueRequest_lawsKept (.batchItem r.pass c.index) ⟨.batch, r.tag⟩ it c.attempt).trans (State.setBatch_lawsKept _ _)

theorem State.setTurn_lawsKept (turn : Turn) : CircuitLawsKept s (s.setTurn turn) := .of_eq rfl rfl

theorem State.askHost_lawsKept : CircuitLawsKept s s.askHost.1 := by
  have examined := State.examine_lawsKept s.engine.queue s
  simp only [State.askHost]
  split
  · exact (examined.trans (State.issueHost_lawsKept _ _)).trans (State.setTurn_lawsKept _ _)
  · exact examined

theorem State.askBatch_lawsKept : CircuitLawsKept s s.askBatch.1 := by
  unfold State.askBatch
  split
  · exact (s.issueBatch_lawsKept _ _ _ _).trans (State.setTurn_lawsKept _ _)
  · exact .refl s

theorem State.serveByTurn_lawsKept : CircuitLawsKept s s.serveByTurn := by
  unfold State.serveByTurn
  cases s.engine.turn with
  | host =>
    dsimp only
    split
    · exact s.askHost_lawsKept
    · have asked := s.askHost_lawsKept.trans (State.askBatch_lawsKept _)
      split
      · exact asked
      · exact asked.trans (State.withPort_lawsKept _ _)
  | batch =>
    dsimp only
    split
    · exact s.askBatch_lawsKept
    · have asked := s.askBatch_lawsKept.trans (State.askHost_lawsKept _)
      split
      · exact asked
      · exact asked.trans (State.withPort_lawsKept _ _)

theorem State.arbitrate_lawsKept (k : Nat) : CircuitLawsKept s (s.arbitrate k) := by
  have bids : ∀ b, CircuitLawsKept s (s.sendBid b) := fun b => by cases b <;> exact .of_eq rfl rfl
  unfold State.arbitrate
  split
  · split
    · exact bids _
    · exact s.withPort_lawsKept _
  · split
    · split
      · exact bids _
      · exact s.serveByTurn_lawsKept
    · exact s.serveByTurn_lawsKept

theorem State.sendOut_lawsKept (id : CircuitId) (position : Nat) (d : Dest) :
    CircuitLawsKept s (s.sendOut id position d).1 := by
  unfold State.sendOut
  split
  · exact .refl s
  · split
    · exact .refl s
    · exact s.withPort_lawsKept _

/-- A unit or an assembly begins only in a RUNNING circuit (R54, R58, R62). -/
theorem State.openCircuit_lawsKept (id : CircuitId) (position : Nat) :
    CircuitLawsKept s (s.openCircuit id position).1 := by
  unfold State.openCircuit
  split
  · exact .refl s
  · next c h =>
    split
    · unfold State.openOut
      split
      · split
        · next runs => exact (State.beginOut_lawsKept h runs.2).trans (State.sendOut_lawsKept _ _ _ _)
        · exact .refl s
      · exact s.sendOut_lawsKept _ _ _
    · unfold State.openIn
      split
      · dsimp only
        split
        · next runs => exact State.beginIn_lawsKept h runs.2
        · exact .refl s
      · exact .refl s

theorem State.openNext_lawsKept : CircuitLawsKept s s.openNext := by
  have used : ∀ (k : Nat) (u : State), CircuitLawsKept u (u.openUse k).1 := fun k u => by
    unfold State.openUse
    split
    · exact u.arbitrate_lawsKept k
    · exact .refl u
    · exact u.openCircuit_lawsKept _ _
    · exact .refl u
  unfold State.openNext
  split
  · exact ((s.withPort_lawsKept _).trans (used _ _)).trans (State.withPort_lawsKept _ _)
  · exact .refl s

/-! ### Slots close (R16 to R18, R61, R63, R64) -/

theorem State.countStray_lawsKept (j : Judgement) : CircuitLawsKept s (s.countStray j) := by
  cases j with
  | good _ => exact .of_eq rfl rfl
  | bad => exact .refl s
  | silent => exact .refl s

theorem State.hostAnswered_lawsKept (tag : Byte) (a : StAddr) (j : Judgement) :
    CircuitLawsKept s (s.hostAnswered tag a j) := by
  unfold State.hostAnswered
  split
  · exact s.countStray_lawsKept j
  · refine .trans ?_ (State.report_lawsKept _ a j)
    split
    · exact s.completeHost_lawsKept _ _ _ _
    · exact s.completeHost_lawsKept _ _ _ _
    · exact s.completeHost_lawsKept _ _ _ _
    · exact .of_eq rfl rfl

theorem State.pairAnswered_lawsKept (p : Pair) (j : Judgement) : CircuitLawsKept s (s.pairAnswered p j) := by
  unfold State.pairAnswered
  split
  · cases j with
    | good _ => exact s.identified_lawsKept _ _
    | bad => exact .refl s
    | silent => exact .refl s
  · exact s.report_lawsKept _ j
  · exact s.hostAnswered_lawsKept _ _ j
  · unfold State.batchAnswered
    split
    · exact s.countStray_lawsKept j
    · exact (s.answerItem_lawsKept _ _ _ j).trans (State.report_lawsKept _ _ j)

theorem State.completeUnit_lawsKept (id : CircuitId) (source : StAddr) (a : Assembly) :
    CircuitLawsKept s (s.completeUnit id source a) := by
  unfold State.completeUnit
  split
  · exact (s.heard_lawsKept source).trans (State.finishHeardUnit_lawsKept _ id)
  · exact (s.endAssembly_lawsKept id).trans (State.missed_lawsKept _ source)

/-- A judgement goes to an assembly that is in progress (R63). -/
theorem State.circuitHeard_lawsKept (id : CircuitId) (position : Nat) (source : StAddr) (j : Judgement) :
    CircuitLawsKept s (s.circuitHeard id position source j) := by
  unfold State.circuitHeard
  split
  · exact .refl s
  · next c h =>
    split
    · exact .refl s
    · next a ha =>
      have judged : CircuitLawsKept s (s.judgeSlot id c a position j) :=
        State.setCircuit_lawsKept h (.of_unit rfl le_rfl (fun hf => hf) fun none => by rw [ha] at none; cases none)
      dsimp only
      split
      · exact judged.trans (State.completeUnit_lawsKept _ _ _ _)
      · exact judged

theorem State.closeMode_lawsKept (mode : SlotMode) (line : SlotLine) : CircuitLawsKept s (s.closeMode mode line) := by
  cases mode with
  | sendCircuit id position => exact s.closeOut_lawsKept id position
  | sendPair => exact .refl s
  | listenCircuit id position source => exact (s.withPort_lawsKept _).trans (State.circuitHeard_lawsKept _ _ _ _ _)
  | listenReply =>
    simp only [State.closeMode]
    split
    · exact .refl s
    · exact (s.withPort_lawsKept _).trans (State.pairAnswered_lawsKept _ _ _)
  | quiet => exact s.withPort_lawsKept _

theorem State.closeNow_lawsKept (line : SlotLine) : CircuitLawsKept s (s.closeNow line) := by
  unfold State.closeNow
  split
  · exact (s.withPort_lawsKept _).trans (State.closeMode_lawsKept _ _ _)
  · exact .refl s

/-! ### Work owed (log entry 3) -/

theorem State.enterRunning_lawsKept : CircuitLawsKept s s.enterRunning :=
  ((s.withPort_lawsKept _).trans (State.runningFrameStart_lawsKept _)).trans (State.onDelivery_lawsKept _ _)

theorem State.startFrame_lawsKept : CircuitLawsKept s s.startFrame := by
  simp only [State.startFrame]
  split
  · exact (s.withPort_lawsKept _).trans (State.runningFrameStart_lawsKept _)
  · exact s.withPort_lawsKept _

theorem State.adoptAtFrameStart_lawsKept : CircuitLawsKept s s.adoptAtFrameStart :=
  s.adoptWithRecord_lawsKept.trans (State.withPort_lawsKept _ _)

theorem State.timeOutItem_lawsKept : CircuitLawsKept s s.timeOutItem := by
  unfold State.timeOutItem
  split
  · exact s.endItem_lawsKept _ _ _ _
  · exact .refl s

end

/-- Work that is carried out where it is owed. -/
theorem CircuitLawsKept.where_owed {owed : Bool} (h : CircuitLawsKept s t) : CircuitLawsKept s (if owed then t else s) := by
  cases owed with
  | true => exact h
  | false => exact .refl s

section
variable (s : State)

theorem State.settleEntry_lawsKept : CircuitLawsKept s s.settleEntry := s.enterRunning_lawsKept.where_owed
theorem State.settleAdoption_lawsKept : CircuitLawsKept s s.settleAdoption := s.adoptAtFrameStart_lawsKept.where_owed
theorem State.settleTimeouts_lawsKept : CircuitLawsKept s s.settleTimeouts := (s.completeAll_lawsKept _ _).where_owed
theorem State.settleItemTimeout_lawsKept : CircuitLawsKept s s.settleItemTimeout := s.timeOutItem_lawsKept.where_owed

/-- The responses to a frame start, in each of their six orders. -/
theorem State.settleInOrder_lawsKept (n : Nat) : CircuitLawsKept s (s.settleInOrder n) := by
  have adoption := State.settleAdoption_lawsKept
  have timeouts := State.settleTimeouts_lawsKept
  have item := State.settleItemTimeout_lawsKept
  unfold State.settleInOrder
  split
  · exact ((adoption _).trans (timeouts _)).trans (item _)
  · exact ((adoption _).trans (item _)).trans (timeouts _)
  · exact ((timeouts _).trans (adoption _)).trans (item _)
  · exact ((timeouts _).trans (item _)).trans (adoption _)
  · exact ((item _).trans (adoption _)).trans (timeouts _)
  · exact ((item _).trans (timeouts _)).trans (adoption _)

theorem State.settleFrameStart_lawsKept : CircuitLawsKept s s.settleFrameStart := by
  simp only [State.settleFrameStart]
  split
  · refine s.settleEntry_lawsKept.trans (.trans ?_ (State.settleInOrder_lawsKept _ _))
    exact .of_eq rfl rfl
  · exact s.settleEntry_lawsKept

theorem State.settle_lawsKept : CircuitLawsKept s s.settle := by
  have stop : ∀ u : State, CircuitLawsKept u u.settleStop := fun u => (u.framesStop_lawsKept .stop).where_owed
  have room : ∀ u : State, CircuitLawsKept u u.settleRoom := fun u => u.takeRoom_lawsKept.where_owed
  unfold State.settle
  split
  · exact .refl s
  · exact (s.settleFrameStart_lawsKept.trans (stop _)).trans (room _)

end

/-! ### The forms of rows -/

/-- A request row keeps the laws that its owner keeps. -/
theorem takeRequest_lawsKept {b : Bool} {owner : State → State × Answer} (h : takeRequest tag b owner s = .next t)
    (own : ∀ u, CircuitLawsKept u (owner u).1) : CircuitLawsKept s t := by
  obtain ⟨-, rfl⟩ | ⟨-, -, rfl⟩ | ⟨-, -, -, rfl⟩ | ⟨-, -, -, rfl⟩ := takeRequest_cases b t h
  · exact .refl _
  · exact s.settle_lawsKept.trans (State.withLink_lawsKept _ _)
  · exact (s.settle_lawsKept.trans (own _)).trans (State.withLink_lawsKept _ _)
  · exact s.settle_lawsKept.trans (State.withLink_lawsKept _ _)

/-- An event row keeps the laws that its act keeps. -/
theorem onEvent_lawsKept {occasion : State → Bool} {act : State → State} (h : onEvent occasion act s = .next t)
    (acts : ∀ u, CircuitLawsKept u (act u)) : CircuitLawsKept s t := by
  obtain ⟨-, rfl⟩ | ⟨-, -, rfl⟩ | ⟨-, -, rfl⟩ := onEvent_cases t h
  · exact .refl _
  · exact s.settle_lawsKept.trans (acts _)
  · exact s.settle_lawsKept

/-- A row that carries out owed work keeps the laws that this work keeps. -/
theorem onOwed_lawsKept {owed : State → Bool} {act : State → State} (h : onOwed owed act s = .next t)
    (acts : ∀ u, CircuitLawsKept u (act u)) : CircuitLawsKept s t := by
  obtain ⟨-, -, rfl⟩ | ⟨-, rfl⟩ := onOwed_cases t h
  · exact acts _
  · exact .refl _

/-! ### Owners of requests -/

theorem checkFields_lawsKept {fault : Option Nat} {go : State → State × Answer} (h : CircuitLawsKept s (go s).1) :
    CircuitLawsKept s (checkFields fault go s).1 :=
  checkFields_rec (.refl s) fun _ => h

/-- An editing request leaves the live schedule alone. -/
theorem editDraft_lawsKept {go : State → State × Answer} (h : CircuitLawsKept s (go s).1) :
    CircuitLawsKept s (editDraft go s).1 :=
  editDraft_rec (.refl s) fun _ => h

theorem State.setDraft_lawsKept (s : State) (d : Draft) : CircuitLawsKept s (s.setDraft d) := .of_eq rfl rfl

theorem onLiveOut_lawsKept {id : CircuitId} {go : LiveCircuit → State → State × Answer}
    (h : ∀ c, s.circuit id = some c → CircuitLawsKept s (go c s).1) : CircuitLawsKept s (onLiveOut id go s).1 := by
  unfold onLiveOut
  split
  · exact .refl s
  · next c hc =>
    split
    · exact h c hc
    · exact .refl s

/-- PUT appends only to a queue that is shorter than its depth (R55, R56). -/
theorem ownPut_lawsKept (p : List Byte) (s : State) : CircuitLawsKept s (ownPut p s).1 := by
  refine checkFields_lawsKept (onLiveOut_lawsKept fun c hc => ?_)
  unfold putUnitOn
  split
  · exact .refl s
  · split
    · exact .refl s
    · next room =>
      split
      · refine State.rehold_lawsPass hc ⟨fun _ => ?_, fun hr => hr, fun hu => hu⟩
        rw [List.length_append, List.length_singleton]
        exact Nat.lt_of_not_le room
      · exact .refl s

theorem ownPurge_lawsKept (p : List Byte) (s : State) : CircuitLawsKept s (ownPurge p s).1 :=
  checkFields_lawsKept (onLiveOut_lawsKept fun _ hc => State.rehold_lawsKept hc (.of_units rfl (Nat.zero_le _) rfl rfl))

theorem ownReadCircuit_lawsKept (p : List Byte) (s : State) : CircuitLawsKept s (ownReadCircuit p s).1 := by
  refine checkFields_lawsKept ?_
  unfold readCircuitOn
  split
  · exact .refl s
  · exact s.clearCircuit_lawsKept _ _

theorem ownAdmit_lawsKept (p : List Byte) (s : State) : CircuitLawsKept s (ownAdmit p s).1 := by
  refine checkFields_lawsKept ?_
  simp only [admitOn]
  split
  · exact s.setEntry_followStation_lawsKept _ _
  · exact s.setEntry_lawsKept rfl
  · exact s.setEntry_lawsKept rfl
  all_goals exact .refl s

theorem ownRelease_lawsKept (p : List Byte) (s : State) : CircuitLawsKept s (ownRelease p s).1 := by
  refine checkFields_lawsKept ?_
  simp only [releaseOn]
  split
  · next excluded => exact s.setEntry_lawsKept (by rw [excluded]; rfl)
  · exact .refl s

theorem ownTransact_lawsKept (tag : Byte) (p : List Byte) (s : State) : CircuitLawsKept s (ownTransact tag p s).1 := by
  have resources : ∀ r, CircuitLawsKept s (transactByResources tag r s).1 := fun r => by
    unfold transactByResources
    split
    · exact .refl s
    · split
      · exact .refl s
      · split
        · exact .of_eq rfl rfl
        · exact .refl s
  refine checkFields_lawsKept ?_
  unfold transactByState
  cases s.port.trunk
  case off | halted => exact .refl s
  all_goals exact resources _

theorem ownCancel_lawsKept (p : List Byte) (s : State) : CircuitLawsKept s (ownCancel p s).1 := by
  unfold ownCancel cancelTag
  split
  · exact .refl s
  · split
    · exact s.completeHost_lawsKept _ _ _ _
    · exact s.completeHost_lawsKept _ _ _ _
    · exact .refl s

theorem State.acceptRun_lawsKept (l : BatchList) (tag : Byte) (k : Nat) (s : State) :
    CircuitLawsKept s (s.acceptRun l tag k) := by
  refine .trans ?_ (State.runPasses_lawsKept _ _ _ _)
  exact .of_eq rfl rfl

theorem batchLoadIdle_lawsKept (tag : Byte) (l : BatchList) (count : Option Nat) (s : State) :
    CircuitLawsKept s (batchLoadIdle tag l count s).1 := by
  cases count with
  | none => exact s.setBatch_lawsKept _
  | some k =>
    simp only [batchLoadIdle, loadAndRun]
    split
    · exact .refl s
    · split
      · exact .refl s
      · exact (s.setBatch_lawsKept _).trans (State.acceptRun_lawsKept l tag k _)

theorem ownBatchLoad_lawsKept (tag : Byte) (p : List Byte) (s : State) : CircuitLawsKept s (ownBatchLoad tag p s).1 := by
  refine checkFields_lawsKept ?_
  unfold batchLoadByState
  split
  · exact .refl s
  · exact batchLoadIdle_lawsKept _ _ _ s
  · exact batchLoadIdle_lawsKept _ _ _ s

theorem ownBatchRun_lawsKept (tag : Byte) (p : List Byte) (s : State) : CircuitLawsKept s (ownBatchRun tag p s).1 := by
  refine checkFields_lawsKept ?_
  unfold batchRunByState
  split
  · exact .refl s
  · exact .refl s
  · split
    · exact .refl s
    · split
      · exact .refl s
      · exact State.acceptRun_lawsKept _ _ _ s

theorem abortRun_lawsKept (l : BatchList) (r : BatchRun) (s : State) : CircuitLawsKept s (abortRun l r s).1 := by
  unfold abortRun
  split
  · exact .refl s
  · split
    · unfold abortWaiting
      split
      · exact .refl s
      · exact s.setBatch_lawsKept _
    · split
      · unfold abortItem
        split
        · exact s.setBatch_lawsKept _
        · exact s.endItem_lawsKept l { r with abort := true } _ ⟨.aborted, []⟩
        · exact s.endItem_lawsKept l { r with abort := true } _ ⟨.notRun, []⟩
      · exact .refl s

theorem ownBatchAbort_lawsKept (s : State) : CircuitLawsKept s (ownBatchAbort s).1 := by
  unfold ownBatchAbort
  split
  · exact .refl s
  · exact .refl s
  · exact abortRun_lawsKept _ _ s

theorem ownStatus_lawsKept (p : List Byte) (s : State) : CircuitLawsKept s (ownStatus p s).1 := by
  refine checkFields_lawsKept ?_
  dsimp only
  split
  · exact .of_eq rfl rfl
  · exact .refl s

theorem ownConfigure_lawsKept (p : List Byte) (s : State) : CircuitLawsKept s (ownConfigure p s).1 := by
  refine checkFields_lawsKept ?_
  unfold configureByState
  split
  · exact .refl s
  · exact .refl s
  · exact .refl s
  · exact s.withPort_lawsKept _
  · split
    · exact .refl s
    · exact s.withPort_lawsKept _

theorem ownStart_lawsKept (s : State) : CircuitLawsKept s (ownStart s).1 := by
  obtain same | started := ownStart_cases s
  · rw [same]; exact .refl s
  · rw [started]; exact .of_eq rfl rfl

theorem ownStop_lawsKept (s : State) : CircuitLawsKept s (ownStop s).1 := by
  have stopped : CircuitLawsKept s s.stopRunning := by
    unfold State.stopRunning
    split
    · exact s.framesStop_lawsKept _
    · exact s.withPort_lawsKept _
  unfold ownStop
  split
  · exact .refl s
  · exact .refl s
  · exact s.withPort_lawsKept _
  · exact stopped
  · exact stopped

theorem ownDropCircuit_lawsKept (p : List Byte) (s : State) : CircuitLawsKept s (ownDropCircuit p s).1 := by
  refine checkFields_lawsKept (editDraft_lawsKept ?_)
  split
  · exact .refl s
  · exact s.setDraft_lawsKept _

theorem ownAdopt_lawsKept (s : State) : CircuitLawsKept s (ownAdopt s).1 := by
  have validated : ∀ pending, CircuitLawsKept s (adoptValidated pending s).1 := fun pending => by
    unfold adoptValidated
    split
    · exact .refl s
    · split
      · exact .of_eq rfl rfl
      · exact s.carryOutAdoption_lawsKept
  unfold ownAdopt
  cases s.port.trunk
  case off => exact .refl s
  all_goals exact editDraft_lawsKept (validated _)

/-! ### Every row -/

theorem State.collideNow_lawsKept (s : State) : CircuitLawsKept s s.collideNow := by
  unfold State.collideNow
  split
  · unfold State.collideAt
    split
    · exact (s.withPort_lawsKept _).trans (State.framesStop_lawsKept _ _)
    · exact s.withPort_lawsKept _
  · exact .refl s

/-- After a reset there is no live schedule (R23, R164). -/
theorem State.resetBlocks_lawsKept (s : State) (l : Link) : CircuitLawsKept s (s.resetBlocks l) := .of_none rfl

theorem State.endReply_lawsKept (s : State) : CircuitLawsKept s s.endReply := by
  simp only [State.endReply]
  split
  · exact .of_none rfl
  · exact s.withLink_lawsKept _

theorem State.beginBoot_lawsKept (s : State) : CircuitLawsKept s s.beginBoot := by
  unfold State.beginBoot
  split
  · exact s.withLink_lawsKept _
  · exact .refl s

theorem State.beginReply_lawsKept (s : State) : CircuitLawsKept s s.beginReply := by
  unfold State.beginReply
  split
  · exact .refl s
  · exact s.withLink_lawsKept _

theorem State.beginNotice_lawsKept (s : State) : CircuitLawsKept s s.beginNotice := by
  unfold State.beginNotice
  split
  · exact .refl s
  · exact .of_eq rfl rfl

/-- Every row keeps the three laws of live circuits, each by itself. -/
theorem exec_lawsKept {i : Instr} (h : exec i s = .next t) : CircuitLawsKept s t := by
  cases i with
  | hello tag p => exact takeRequest_lawsKept ((exec_hello s tag p).symm.trans h) fun u => .refl u
  | status tag p => exact takeRequest_lawsKept ((exec_status s tag p).symm.trans h) (ownStatus_lawsKept p)
  | restart tag p => exact takeRequest_lawsKept ((exec_restart s tag p).symm.trans h) fun u => u.withLink_lawsKept _
  | credit tag p =>
    exact takeRequest_lawsKept ((exec_credit s tag p).symm.trans h) fun u => checkFields_lawsKept (u.onDelivery_lawsKept _)
  | configure tag p => exact takeRequest_lawsKept ((exec_configure s tag p).symm.trans h) (ownConfigure_lawsKept p)
  | start tag p => exact takeRequest_lawsKept ((exec_start s tag p).symm.trans h) ownStart_lawsKept
  | stop tag p => exact takeRequest_lawsKept ((exec_stop s tag p).symm.trans h) ownStop_lawsKept
  | defineCircuit tag p =>
    exact takeRequest_lawsKept ((exec_defineCircuit s tag p).symm.trans h) fun u =>
      checkFields_lawsKept (editDraft_lawsKept (u.setDraft_lawsKept _))
  | dropCircuit tag p => exact takeRequest_lawsKept ((exec_dropCircuit s tag p).symm.trans h) (ownDropCircuit_lawsKept p)
  | setOpen tag p =>
    exact takeRequest_lawsKept ((exec_setOpen s tag p).symm.trans h) fun u =>
      checkFields_lawsKept (editDraft_lawsKept (u.setDraft_lawsKept _))
  | adopt tag p => exact takeRequest_lawsKept ((exec_adopt s tag p).symm.trans h) ownAdopt_lawsKept
  | revert tag p =>
    exact takeRequest_lawsKept ((exec_revert s tag p).symm.trans h) fun u => editDraft_lawsKept (u.setDraft_lawsKept _)
  | put tag p => exact takeRequest_lawsKept ((exec_put s tag p).symm.trans h) (ownPut_lawsKept p)
  | purge tag p => exact takeRequest_lawsKept ((exec_purge s tag p).symm.trans h) (ownPurge_lawsKept p)
  | readCircuit tag p => exact takeRequest_lawsKept ((exec_readCircuit s tag p).symm.trans h) (ownReadCircuit_lawsKept p)
  | admitStation tag p => exact takeRequest_lawsKept ((exec_admitStation s tag p).symm.trans h) (ownAdmit_lawsKept p)
  | excludeStation tag p =>
    exact takeRequest_lawsKept ((exec_excludeStation s tag p).symm.trans h) fun u =>
      checkFields_lawsKept (u.excludeNow_lawsKept _)
  | releaseStation tag p =>
    exact takeRequest_lawsKept ((exec_releaseStation s tag p).symm.trans h) (ownRelease_lawsKept p)
  | queryStation tag p =>
    exact takeRequest_lawsKept ((exec_queryStation s tag p).symm.trans h) fun u => checkFields_lawsKept (.refl u)
  | transact tag p => exact takeRequest_lawsKept ((exec_transact s tag p).symm.trans h) (ownTransact_lawsKept tag p)
  | cancel tag p => exact takeRequest_lawsKept ((exec_cancel s tag p).symm.trans h) (ownCancel_lawsKept p)
  | batchLoad tag p => exact takeRequest_lawsKept ((exec_batchLoad s tag p).symm.trans h) (ownBatchLoad_lawsKept tag p)
  | batchPreset tag p =>
    exact takeRequest_lawsKept ((exec_batchPreset s tag p).symm.trans h) fun u => checkFields_lawsKept (.of_eq rfl rfl)
  | batchRun tag p => exact takeRequest_lawsKept ((exec_batchRun s tag p).symm.trans h) (ownBatchRun_lawsKept tag p)
  | batchAbort tag p => exact takeRequest_lawsKept ((exec_batchAbort s tag p).symm.trans h) ownBatchAbort_lawsKept
  | unknownKind kind tag p =>
    refine onEvent_lawsKept ((exec_unknownKind s kind tag p).symm.trans h) fun u => ?_
    split
    · exact u.withLink_lawsKept _
    · exact u.withLink_lawsKept _
  | backlogDiscard => exact onEvent_lawsKept ((exec_backlogDiscard s).symm.trans h) fun u => u.withLink_lawsKept _
  | crcError body crc => exact onEvent_lawsKept ((exec_crcError s body crc).symm.trans h) fun u => u.withLink_lawsKept _
  | formatError cause => exact onEvent_lawsKept ((exec_formatError s cause).symm.trans h) fun u => u.withLink_lawsKept _
  | interByteTimeout => exact onEvent_lawsKept ((exec_interByteTimeout s).symm.trans h) fun u => u.withLink_lawsKept _
  | powerOnReset pinLow rate1 rate0 =>
    obtain rfl := Host.Outcome.next.inj h
    exact s.resetBlocks_lawsKept _
  | resetPinAssert => exact onEvent_lawsKept ((exec_resetPinAssert s).symm.trans h) fun u => .of_eq rfl rfl
  | resetPinRelease rate1 rate0 =>
    obtain rfl := Host.Outcome.next.inj h
    split
    · exact .refl s
    · exact s.resetBlocks_lawsKept _
    · exact s.resetBlocks_lawsKept _
  | bootTransmit => exact onEvent_lawsKept ((exec_bootTransmit s).symm.trans h) State.beginBoot_lawsKept
  | bootSent => exact onEvent_lawsKept ((exec_bootSent s).symm.trans h) fun u => u.withLink_lawsKept _
  | replyTransmit => exact onEvent_lawsKept ((exec_replyTransmit s).symm.trans h) State.beginReply_lawsKept
  | replySent => exact onEvent_lawsKept ((exec_replySent s).symm.trans h) State.endReply_lawsKept
  | noticeTransmit => exact onEvent_lawsKept ((exec_noticeTransmit s).symm.trans h) State.beginNotice_lawsKept
  | noticeSent => exact onEvent_lawsKept ((exec_noticeSent s).symm.trans h) fun u => .of_eq rfl rfl
  | batchRoomOffer => exact onOwed_lawsKept ((exec_batchRoomOffer s).symm.trans h) State.takeRoom_lawsKept
  | frameStart => exact onEvent_lawsKept ((exec_frameStart s).symm.trans h) State.startFrame_lawsKept
  | enterRunning => exact onOwed_lawsKept ((exec_enterRunning s).symm.trans h) State.enterRunning_lawsKept
  | adoptionAtRoundStart =>
    exact onOwed_lawsKept ((exec_adoptionAtRoundStart s).symm.trans h) fun u =>
      u.settleEntry_lawsKept.trans (State.adoptAtFrameStart_lawsKept _)
  | deferTimeout => exact onOwed_lawsKept ((exec_deferTimeout s).symm.trans h) fun u => u.completeAll_lawsKept _ _
  | batchItemTimeout => exact onOwed_lawsKept ((exec_batchItemTimeout s).symm.trans h) State.timeOutItem_lawsKept
  | slotOpen => exact onEvent_lawsKept ((exec_slotOpen s).symm.trans h) State.openNext_lawsKept
  | slotClose line => exact onEvent_lawsKept ((exec_slotClose s line).symm.trans h) fun u => u.closeNow_lawsKept line
  | collision => exact onEvent_lawsKept ((exec_collision s).symm.trans h) State.collideNow_lawsKept
  | stopComplete => exact onOwed_lawsKept ((exec_stopComplete s).symm.trans h) fun u => u.framesStop_lawsKept .stop

/-- Settles O8: only PUT makes a queue longer, and only below its depth. -/
theorem queueLawKept : Obligations.QueueLawKept := fun _ _ _ hs h => (exec_lawsKept h).queue hs

/-- Settles O9: where a station's fitness changes its circuits follow, and an adoption gives a new circuit the run state of
its station. -/
theorem runStateLawKept : Obligations.RunStateLawKept := fun _ _ _ hs h => (exec_lawsKept h).runState hs

/-- Settles O10: units begin in RUNNING circuits only, and a circuit that stalls gives them up. -/
theorem unitLawKept : Obligations.UnitLawKept := fun _ _ _ hs h => (exec_lawsKept h).unit hs

end Sys2Proof.Machine
end

section
/-! EXCLUDE with its cascade, PUT, PURGE and READ_CIRCUIT, and the laws at reset (R53, R55, R57, R68, R87). -/

namespace Sys2Proof.Machine

variable {s : State} {a : StAddr} {id : CircuitId} {c : LiveCircuit} {tag : Byte}

/-! ### EXCLUDE (R85, R87, R112) -/

/-- The cascade counts the DONE records it appends (R112). -/
theorem State.cascadeHost_records_length (o : TxnOutcome) : (s.cascadeHost a o).1.delivery.records.length =
    s.delivery.records.length + (s.cascadeHost a o).2 := by
  simp only [State.cascadeHost, State.completeAll_records, List.length_append, List.length_map]
  cases s.holderOf a with
  | none => simp
  | some r =>
    simp only [State.completeHost_delivery, Delivery.appendDone_records, List.length_append, List.length_singleton,
      Option.toList_some]
    omega

/-- What EXCLUDE does before the station's batch item ends (R87). -/
def State.excluded (a : StAddr) (s : State) : State :=
  (((s.setEntry a { s.entry a with state := .excluded }).followStation a).cascadeHost a .stationExcluded).1

theorem State.excluded_gone (acc : s.Accounting) (law : s.MarkerLaw) :
    StationGone s a { s.entry a with state := .excluded } .stationExcluded (s.excluded a) :=
  State.stationGone acc law (e := { s.entry a with state := .excluded }) rfl rfl .stationExcluded

theorem State.excludeNow_eq (acc : s.Accounting) (law : s.MarkerLaw) :
    s.excludeNow a = ((s.excluded a).cascadeBatch a .stationExcluded, (s.goneRecords a).length) := by
  have appended := State.cascadeHost_records_length (a := a) .stationExcluded
    (s := (s.setEntry a { s.entry a with state := .excluded }).followStation a)
  have gone := congrArg (fun d : Delivery => d.records.length) (State.excluded_gone (a := a) acc law).delivery
  rw [State.excluded, List.length_append, List.length_map] at gone
  rw [State.followStation_eq, State.mapLive_records, State.setEntry_delivery, ← State.followStation_eq] at appended
  refine Prod.ext rfl ?_
  exact Nat.add_left_cancel (appended.symm.trans gone)

theorem addressFault_some {addr : Byte} (h : addr = 0 ∨ 30 < addr.toNat) : addressFault [addr] = some 1 := by
  have illegal : stationLegal addr.toNat = false := by
    rw [stationLegal, decide_eq_false_iff_not]
    rcases h with rfl | h
    · decide
    · omega
  simp [addressFault, firstFault, numAt, byteAt, illegal]

theorem addressFault_none {addr : Byte} (h : addr.toNat = a.val + 1) : addressFault [addr] = none := by
  have legal : stationLegal addr.toNat = true := decide_eq_true (by omega)
  simp [addressFault, firstFault, numAt, byteAt, legal]

theorem stationOf_succ {n : Nat} (h : n = a.val + 1) : stationOf n = a := by
  rw [h, stationOf, Nat.add_sub_cancel]
  exact Fin.ofNat_val_eq_self a

theorem exec_excludeStation_taken (hs : s.Takes) (addr : Byte) : exec (.excludeStation tag [addr]) s =
    .next ((ownExclude [addr] s).1.pushReply tag (ownExclude [addr] s).2) := by
  rw [exec_excludeStation, show fixedLength 1 [addr] = true from rfl, takeRequest_taken hs]

/-- Settles O42: the cascade of a station that goes, then the end of its batch item. -/
theorem excludeCascade : Obligations.ExcludeCascade := by
  intro tag addr s hs
  refine ⟨fun illegal => ?_, fun a haddr acc law => ?_⟩
  · rw [exec_excludeStation_taken hs, ownExclude, addressFault_some illegal]
    rfl
  · have gone := State.excluded_gone (a := a) acc law
    have batch : (s.excluded a).batch = s.batch := gone.rest.2.1
    refine ⟨s.excluded a, (s.excluded a).cascadeBatch a .stationExcluded, ?_, gone, fun none => ?_, fun l r c item => ?_⟩
    · rw [exec_excludeStation_taken hs, ownExclude, addressFault_none haddr, checkFields, excludeOn,
        show stationOf (numAt [addr] 0) = a from stationOf_succ haddr, State.excludeNow_eq acc law]
      rfl
    · exact State.cascadeBatch_none (fun l r c => by rw [State.ItemAt, batch]; exact none l r c) _
    · exact State.cascadeBatch_of_itemAt (by rw [State.ItemAt, batch]; exact item) _

/-! ### The laws at reset -/

theorem State.reset_circuit (id : CircuitId) : State.reset.circuit id = none := rfl

/-- Settles O4: after a reset there are no circuits, records, transactions or replies, and every buffer is free. -/
theorem lawsHoldAtReset : Obligations.LawsHoldAtReset := by
  have noCircuit : ∀ id c, State.reset.circuit id ≠ some c := fun id c h => by rw [State.reset_circuit] at h; cases h
  refine ⟨?pool, ?accounting, ?marker, fun id c h => absurd h (noCircuit id c), fun id c h => absurd h (noCircuit id c),
    fun id c h => absurd h (noCircuit id c), State.scheduleLaw_of_none rfl rfl, ?definitions, ?link⟩
  case pool =>
    have held : State.reset.circuitsHeld = 0 := by
      rw [State.circuitsHeld, show State.reset.liveTable = Table.replicate 32 none from rfl, Table.sum_replicate]
      rfl
    rw [State.PoolLaw, held]
    rfl
  case accounting => exact ⟨rfl, rfl, Nat.zero_le _, Nat.zero_le _, .refl _, .nil, trivial⟩
  case marker =>
    intro a
    rw [State.entry, show State.reset.roster.entries = Table.replicate 30 StationEntry.atReset from rfl,
      Table.get_replicate]
    rfl
  case definitions =>
    exact State.definitionsLegal_iff.mpr ⟨Draft.legal_empty, fun d hd => by cases hd⟩
  case link => exact ⟨Nat.zero_le _, Nat.zero_le _⟩

/-! ### PUT, PURGE (R55, R57) -/

theorem idFault_eq (id : Byte) (rest : List Byte) : idFault (id :: rest) = if 31 < id.toNat then some 1 else none := by
  by_cases h : 31 < id.toNat <;> simp [idFault, firstFault, numAt, byteAt, h]

/-- PUT and PURGE on an id: its field, a live definition, and the direction decide before the request acts (R55, R57). -/
theorem checkFields_onLiveOut (idByte : Byte) (rest : List Byte) (go : LiveCircuit → State → State × Answer) (s : State) :
    checkFields (idFault (idByte :: rest)) (onLiveOut id go) s =
      if 31 < idByte.toNat then (s, .refuseWith .badField 1)
      else match s.circuit id with
        | none => (s, .refuse .notFound)
        | some c => if c.defn.isOut then go c s else (s, .refuseWith .badField 1) := by
  rw [idFault_eq]
  split
  · rfl
  · unfold onLiveOut
    rfl

/-- A unit at the tail of the queue takes its buffers from the pool (R55, R135). -/
theorem State.appendUnit_eq (h : s.circuit id = some c) (u : List Buf) : s.appendUnit id c u =
    ({ s with delivery.free := s.delivery.free - u.length } : State).setCircuit id
      { c with run.queue := c.run.queue ++ [u] } := by
  have held : ({ c.run with queue := c.run.queue ++ [u] } : CircuitRun).held = c.run.held + u.length := by
    simp only [CircuitRun.held, CircuitRun.queueHeld, List.map_append, List.sum_append, List.map_singleton,
      List.sum_singleton]
    omega
  rw [State.appendUnit, State.rehold_of_circuit h, ← State.setCircuit_withDelivery]
  dsimp only
  rw [held, Nat.add_comm c.run.held, Nat.add_sub_add_right]
  rfl

theorem State.purge_eq (h : s.circuit id = some c) : s.rehold id { c with run := { c.run with queue := [] } } =
    ({ s with delivery.free := s.delivery.free + (c.run.queue.map List.length).sum } : State).setCircuit id
      { c with run.queue := [] } := by
  have held : c.run.held = ({ c.run with queue := [] } : CircuitRun).held + (c.run.queue.map List.length).sum := by
    simp only [CircuitRun.held, CircuitRun.queueHeld, List.map_nil, List.sum_nil]
    omega
  rw [State.rehold_of_returned h held, ← State.setCircuit_withDelivery]
  rfl

theorem putUnit_cons (idByte : Byte) (data : List Byte) :
    putUnit (idByte :: data) = (List.range (data.length / 8)).map (Buf.ofData data) := by
  rw [putUnit, List.length_cons, Nat.add_sub_cancel, List.drop_one, List.tail_cons]

/-- PUT on a live circuit: its data size, the room in its queue and the pool decide (R55, R135). -/
theorem putUnitOn_eq {data : List Byte} (h : s.circuit id = some c) (hn : data.length ∈ [8, 16, 24, 32]) :
    putUnitOn id ((List.range (data.length / 8)).map (Buf.ofData data)) c s =
      if data.length ≠ 8 * c.defn.slots.length then (s, .refuseWith .badField 2)
      else if c.defn.depth ≤ c.run.queue.length then (s, .refuse .queueFull)
      else if s.delivery.free < c.defn.slots.length + 64 then (s, .refuse .poolLow)
      else (({ s with delivery.free := s.delivery.free - c.defn.slots.length } : State).setCircuit id
        { c with run.queue := c.run.queue ++ [(List.range c.defn.slots.length).map (Buf.ofData data)] },
        .ok (c.run.queue.length + 1)) := by
  simp only [List.mem_cons, List.not_mem_nil, or_false] at hn
  have size : data.length / 8 = c.defn.width ↔ data.length = 8 * c.defn.slots.length := by
    rw [CircuitDef.width]
    omega
  simp only [putUnitOn, List.length_map, List.length_range, ne_eq, size]
  split
  · rfl
  · next fits =>
    have width : data.length / 8 = c.defn.slots.length := size.mpr (Decidable.not_not.mp fits)
    split
    · rfl
    · rw [State.appendUnit_eq h, List.length_map, List.length_range, width]
      by_cases room : c.defn.slots.length + 64 ≤ s.delivery.free
      · rw [if_pos ((s.delivery.outboundClaim_iff _).mpr room), if_neg (Nat.not_lt.mpr room)]
      · rw [if_neg (fun claim => room ((s.delivery.outboundClaim_iff _).mp claim)), if_pos (Nat.lt_of_not_le room)]

theorem exec_put_taken (hs : s.Takes) (idByte : Byte) {data : List Byte} (hn : data.length ∈ [8, 16, 24, 32]) :
    exec (.put tag (idByte :: data)) s =
      .next ((ownPut (idByte :: data) s).1.pushReply tag (ownPut (idByte :: data) s).2) := by
  have length : putLength (idByte :: data) = true := by
    simp only [List.mem_cons, List.not_mem_nil, or_false] at hn
    simp only [putLength, List.length_cons, Bool.or_eq_true, beq_iff_eq]
    omega
  rw [exec_put, length, takeRequest_taken hs]

/-- Settles O39: the six checks in their order, then the unit at the tail. -/
theorem putChecksAndAppends : Obligations.PutChecksAndAppends := by
  intro tag idByte data s hs hn
  rw [exec_put_taken hs idByte hn, ownPut, checkFields_onLiveOut, putUnit_cons,
    show circuitOf (numAt (idByte :: data) 0) = Fin.ofNat 32 idByte.toNat from rfl]
  congr 1
  split
  · rfl
  · cases h : s.circuit (Fin.ofNat 32 idByte.toNat) with
    | none => rfl
    | some c =>
      dsimp only
      rw [putUnitOn_eq h hn]
      cases ends : c.defn.ends with
      | inn x f => simp only [CircuitDef.isOut, ends]; rfl
      | out d depth =>
        simp only [CircuitDef.isOut, CircuitDef.depth, ends, if_true]
        split
        · rfl
        · split
          · rfl
          · split <;> rfl

/-! ### READ_CIRCUIT (R68) -/

theorem readCircuitFault_eq (idByte flag : Byte) : readCircuitFault [idByte, flag] =
    if 31 < idByte.toNat then some 1 else if flag ≠ 0 ∧ flag ≠ 1 then some 2 else none := by
  have large : 1 < flag.toNat ↔ flag ≠ 0 ∧ flag ≠ 1 := by bv_omega
  by_cases hid : 31 < idByte.toNat
  · simp [readCircuitFault, firstFault, numAt, byteAt, hid]
  · simp [readCircuitFault, firstFault, numAt, byteAt, hid, large]

/-- What READ_CIRCUIT shows of a live circuit, `draft` being the draft's definition of its id (R68, R169). -/
def liveCircuitBytes (id : CircuitId) (draft : Option CircuitDef) (c : LiveCircuit) : List Byte :=
  (match draft with
    | none => List.replicate 13 0
    | some d => 1 :: definitionBytes id d) ++ 1 :: definitionBytes id c.defn ++
  [match c.run.runState with
    | .running => 1
    | .stalled => 2, BitVec.ofNat 8 c.run.queue.length, if c.run.lossReported then 1 else 0] ++
  halfBytes c.run.counters.sent ++ halfBytes c.run.counters.holds ++
  halfBytes c.run.counters.underruns ++ halfBytes c.run.counters.delivered ++
  halfBytes c.run.counters.suppressed ++ halfBytes c.run.counters.dropped

theorem readCircuitData_of_circuit (h : s.circuit id = some c) :
    readCircuitData id s = liveCircuitBytes id (s.sched.draft.circuits.get id) c := by
  have run : (if c.run.runState = .running then (1 : Byte) else 2) = match c.run.runState with
      | .running => 1
      | .stalled => 2 := by
    cases c.run.runState <;> rfl
  simp only [readCircuitData, h, Option.map_some, presenceBytes, runBytes, CircuitCounters.bytes, run, liveCircuitBytes,
    List.append_assoc]
  cases s.sched.draft.circuits.get id <;> rfl

theorem readCircuitData_of_draft {d : CircuitDef} (hd : s.sched.draft.circuits.get id = some d) (h : s.circuit id = none) :
    readCircuitData id s = 1 :: (definitionBytes id d ++ List.replicate 28 0) := by
  rw [readCircuitData, hd, h]
  rfl

theorem State.clearCircuit_of_circuit (h : s.circuit id = some c) (counters : Bool) : s.clearCircuit id counters =
    s.setCircuit id { c with
      run.lossReported := false
      run.counters := if counters then ⟨0, 0, 0, 0, 0, 0⟩ else c.run.counters } := by
  rw [State.clearCircuit, h]
  rfl

/-- READ_CIRCUIT by what the id has, a definition in the draft, a live circuit, or neither (R68). -/
theorem readCircuitOn_eq (id : CircuitId) (clear : Bool) (s : State) : readCircuitOn id clear s =
    match s.sched.draft.circuits.get id, s.circuit id with
    | none, none => (s, .refuse .notFound)
    | some d, none => (s, .okData (1 :: (definitionBytes id d ++ List.replicate 28 0)))
    | draft, some c =>
      (s.setCircuit id { c with
        run.lossReported := false
        run.counters := if clear then ⟨0, 0, 0, 0, 0, 0⟩ else c.run.counters },
       .okData (liveCircuitBytes id draft c)) := by
  unfold readCircuitOn
  cases hc : s.circuit id with
  | some c =>
    rw [if_neg (by simp), readCircuitData_of_circuit hc, State.clearCircuit_of_circuit hc]
    cases s.sched.draft.circuits.get id <;> rfl
  | none =>
    cases hd : s.sched.draft.circuits.get id with
    | none => rfl
    | some d =>
      rw [if_neg (by simp), readCircuitData_of_draft hd hc, State.clearCircuit, hc]

/-- Settles O40: PURGE gives back what the queue held; READ_CIRCUIT shows the id as it stands and then clears. -/
theorem purgeAndReadCircuit : Obligations.PurgeAndReadCircuit := by
  refine ⟨fun tag idByte s hs => ?purge, fun tag idByte flag s hs => ?read⟩
  case purge =>
    rw [exec_purge, show fixedLength 1 [idByte] = true from rfl, takeRequest_taken hs, ownPurge, checkFields_onLiveOut,
      show circuitOf (numAt [idByte] 0) = Fin.ofNat 32 idByte.toNat from rfl]
    congr 1
    split
    · rfl
    · cases h : s.circuit (Fin.ofNat 32 idByte.toNat) with
      | none => rfl
      | some c =>
        dsimp only
        split
        · rw [purgeOn, State.purge_eq h]
          rfl
        · rfl
  case read =>
    rw [exec_readCircuit, show fixedLength 2 [idByte, flag] = true from rfl, takeRequest_taken hs, ownReadCircuit,
      readCircuitFault_eq]
    congr 1
    split
    · rfl
    · split
      · rfl
      · have asked : (numAt [idByte, flag] 1 == 1) = decide (flag = 1) := by
          rw [show numAt [idByte, flag] 1 = flag.toNat from rfl, Bool.beq_eq_decide_eq, decide_eq_decide]
          bv_omega
        dsimp only
        rw [checkFields, show circuitOf (numAt [idByte, flag] 0) = Fin.ofNat 32 idByte.toNat from rfl, asked,
          readCircuitOn_eq]
        simp only [decide_eq_true_eq]
        cases s.circuit (Fin.ofNat 32 idByte.toNat) <;>
          cases s.sched.draft.circuits.get (Fin.ofNat 32 idByte.toNat) <;> rfl

end Sys2Proof.Machine
end

section
/-! The outstanding markers, kept by work on host records and on batch items: what the law of R73 needs beside itself is that
tags of transactions differ and are held, and that a pass that waits has no item. -/

namespace Sys2Proof.Machine

variable {s t u : State} {a : StAddr} {tags : List Byte} {out : StAddr → List Marker}

/-! ### What is kept -/

/-- A pass that waits for room has no current item (R123). -/
def BatchState.Rests : BatchState → Prop
  | .empty => True
  | .loaded _ => True
  | .running _ r => r.waiting = true → r.current = none

/-- The law of the outstanding marker (R73) with `tags` and `out` for the batch unit's tag and item, which its stored state
lags behind while a pass goes from one item to the next; the tags of the transactions differ and are held (R158). -/
structure State.Markers (tags : List Byte) (out : StAddr → List Marker) (s : State) : Prop where
  /-- no two transactions or runs have one tag -/
  distinct : (s.engine.queue.map HostRecord.tag ++ tags).Nodup
  /-- the tag table holds their tags -/
  held : ∀ tag ∈ s.engine.queue.map HostRecord.tag ++ tags, tag ∈ s.link.tags
  /-- what is in progress to a station is what its marker names -/
  law : ∀ a, s.hostOutstanding a ++ out a = (s.entry a).marker.toList

/-- The law of the outstanding marker with what it rests on. -/
structure State.Marked (s : State) : Prop where
  markers : s.Markers s.batch.state.tags fun a => s.batch.state.outstanding a
  rests : s.batch.state.Rests

theorem State.Accounting.marked (acc : s.Accounting) (law : s.MarkerLaw) : s.Marked where
  markers := ⟨acc.tags.nodup_iff.mp acc.distinct, fun _ h => acc.tags.mem_iff.mpr h, law⟩
  rests := by
    have shape := acc.shape
    cases hb : s.batch.state with
    | empty => trivial
    | loaded l => trivial
    | running l r => rw [hb] at shape; exact shape.1

theorem State.Marked.markerLaw (h : s.Marked) : s.MarkerLaw := h.markers.law

theorem State.Markers.queueTags_nodup (h : s.Markers tags out) : (s.engine.queue.map HostRecord.tag).Nodup :=
  (List.nodup_append.mp h.distinct).1

theorem State.Markers.queue_nodup (h : s.Markers tags out) : s.engine.queue.Nodup := h.queueTags_nodup.of_map _

/-- A station has at most one transaction in progress (R73). -/
theorem State.Markers.at_most_one (h : s.Markers tags out) (a : StAddr) :
    (s.hostOutstanding a ++ out a).length ≤ 1 := by
  rw [h.law a]
  cases (s.entry a).marker <;> simp

/-- Nothing is in progress to a station without a marker. -/
theorem State.Markers.empty_of_marker_none (h : s.Markers tags out) (hm : (s.entry a).marker = none) :
    s.hostOutstanding a = [] ∧ out a = [] := by
  have law := h.law a
  rw [hm] at law
  exact List.append_eq_nil_iff.mp law

/-! ### Work that leaves the transactions in progress as they are -/

/-- `t` has the tags, the transactions in progress and the markers of `s`. -/
structure SameMarking (s t : State) : Prop where
  queue : t.engine.queue.map HostRecord.tag = s.engine.queue.map HostRecord.tag
  host : ∀ a, t.hostOutstanding a = s.hostOutstanding a
  batchTags : t.batch.state.tags = s.batch.state.tags
  item : ∀ a, t.batch.state.outstanding a = s.batch.state.outstanding a
  rests : s.batch.state.Rests → t.batch.state.Rests
  tags : t.link.tags = s.link.tags
  marker : ∀ a, (t.entry a).marker = (s.entry a).marker

namespace SameMarking

theorem refl (s : State) : SameMarking s s := ⟨rfl, fun _ => rfl, rfl, fun _ => rfl, fun h => h, rfl, fun _ => rfl⟩

theorem trans (h : SameMarking s t) (h' : SameMarking t u) : SameMarking s u where
  queue := h'.queue.trans h.queue
  host a := (h'.host a).trans (h.host a)
  batchTags := h'.batchTags.trans h.batchTags
  item a := (h'.item a).trans (h.item a)
  rests hr := h'.rests (h.rests hr)
  tags := h'.tags.trans h.tags
  marker a := (h'.marker a).trans (h.marker a)

/-- Work that leaves the host queue, the batch unit's state and the held tags alone. -/
theorem of_markers (queue : t.engine.queue = s.engine.queue) (state : t.batch.state = s.batch.state)
    (tags : t.link.tags = s.link.tags) (marker : ∀ a, (t.entry a).marker = (s.entry a).marker) : SameMarking s t where
  queue := by rw [queue]
  host a := by rw [State.hostOutstanding, queue]; rfl
  batchTags := by rw [state]
  item a := by rw [state]
  rests hr := by rwa [state]
  tags := tags
  marker := marker

/-- Work on the port, the schedule and the delivery queue, and on the host link but its tags. -/
theorem of_eq (roster : t.roster = s.roster) (engine : t.engine = s.engine) (batch : t.batch = s.batch)
    (tags : t.link.tags = s.link.tags) : SameMarking s t :=
  of_markers (by rw [engine]) (by rw [batch]) tags fun a => by rw [State.entry, roster]; rfl

theorem markers (h : SameMarking s t) (hs : s.Markers tags out) : t.Markers tags out where
  distinct := by rw [h.queue]; exact hs.distinct
  held := by rw [h.queue, h.tags]; exact hs.held
  law a := by rw [h.host, h.marker]; exact hs.law a

theorem marked (h : SameMarking s t) (hs : s.Marked) : t.Marked where
  markers := by
    rw [h.batchTags, funext h.item]
    exact h.markers hs.markers
  rests := h.rests hs.rests

end SameMarking

theorem State.setEntry_sameMarking {e : StationEntry} (he : e.marker = (s.entry a).marker) :
    SameMarking s (s.setEntry a e) := by
  refine .of_markers rfl rfl rfl fun b => ?_
  rw [State.entry_setEntry]
  split
  · next h => rw [← h, he]
  · rfl

theorem State.mapEntries_sameMarking {f : StationEntry → StationEntry} (hf : ∀ e, (f e).marker = e.marker) :
    SameMarking s (s.mapEntries f) :=
  .of_markers rfl rfl rfl fun a => by rw [State.entry_mapEntries, hf]

/-- Host records replaced, each by one with its tag that is in progress where it is. -/
theorem State.withQueue_sameMarking {e : Engine} {f : HostRecord → HostRecord} (he : e.queue = s.engine.queue.map f)
    (tag : ∀ r ∈ s.engine.queue, (f r).tag = r.tag)
    (marking : ∀ r ∈ s.engine.queue, ∀ a, (f r).marking a = r.marking a) : SameMarking s (s.withEngine e) where
  queue := by
    rw [State.withEngine_engine, he, List.map_map]
    exact List.map_congr_left tag
  host a := by
    have same : s.engine.queue.filter (HostRecord.marking a ∘ f) = s.engine.queue.filter (HostRecord.marking a) :=
      List.filter_congr fun r hr => marking r hr a
    rw [State.hostOutstanding, State.withEngine_engine, he, List.filter_map, List.map_map, same]
    exact List.map_congr_left fun r hr => congrArg (Marker.mk .host) (tag r (List.mem_of_mem_filter hr))
  batchTags := rfl
  item _ := rfl
  rests h := h
  tags := rfl
  marker _ := rfl

/-- A record of the queue takes an attempt that is in progress where its own was. -/
theorem State.setAttempt_sameMarking {r : HostRecord} {x : Attempt} (h : (s.engine.queue.map HostRecord.tag).Nodup)
    (hr : r ∈ s.engine.queue) (hx : x.wasIssued = r.attempt.wasIssued) : SameMarking s (s.setAttempt r.tag x) := by
  refine State.withQueue_sameMarking rfl (fun q _ => ?_) fun q hq a => ?_
  · split <;> rfl
  · split
    · next ht =>
      obtain rfl := HostRecord.eq_of_tag h hq hr ht
      simp only [HostRecord.marking, hx]
    · rfl

/-! ### Host records complete (R100, R108, R112) -/

/-- A record of the queue completes: its transaction was the only one in progress to its station, or was not in progress. -/
theorem State.Markers.completeHost {r : HostRecord} (h : s.Markers tags out) (hr : r ∈ s.engine.queue) (o : TxnOutcome)
    (reason : Byte) (data : List Byte) : (s.completeHost r o reason data).Markers tags out := by
  have queue : (s.completeHost r o reason data).engine.queue = s.engine.queue.filter fun x => x.tag ≠ r.tag := by
    rw [State.completeHost_queue, eraseP_tag_eq_filter h.queueTags_nodup]
  have sublist : ((s.completeHost r o reason data).engine.queue.map HostRecord.tag).Sublist
      (s.engine.queue.map HostRecord.tag) := by
    rw [queue]
    exact List.filter_sublist.map _
  refine ⟨h.distinct.sublist (sublist.append_right tags), fun tag htag => ?_, fun a => ?_⟩
  · have other : tag ≠ r.tag := by
      rintro rfl
      rcases List.mem_append.mp htag with hq | hb
      · rw [queue] at hq
        obtain ⟨x, hx, ht⟩ := List.mem_map.mp hq
        exact of_decide_eq_true (List.mem_filter.mp hx).2 ht
      · exact (List.nodup_append.mp h.distinct).2.2 _ (List.mem_map_of_mem hr) _ hb rfl
    rw [State.completeHost_link]
    exact (List.mem_erase_of_ne other).mpr (h.held tag ((sublist.append_right tags).subset htag))
  · have law := h.law a
    obtain ⟨before, after, split⟩ := List.append_of_mem hr
    have nodup := h.queueTags_nodup
    rw [split] at nodup
    rw [State.hostOutstanding, State.completeHost_queue, split, HostRecord.eraseP_middle nodup, State.completeHost_entry]
    have single := h.at_most_one a
    rw [State.hostOutstanding, split] at law single
    by_cases hm : r.marking a = true
    · obtain ⟨station, issued⟩ := HostRecord.marking_iff.mp hm
      rw [if_pos ⟨issued, station⟩]
      refine List.length_eq_zero_iff.mp ?_
      simp only [List.filter_append, List.filter_cons_of_pos hm, List.map_append, List.map_cons, List.length_append,
        List.length_cons, List.length_map] at single ⊢
      omega
    · rw [if_neg fun h => hm (HostRecord.marking_iff.mpr ⟨h.2, h.1⟩)]
      rwa [List.filter_append, List.filter_cons_of_neg hm, ← List.filter_append] at law

theorem State.Marked.completeHost {r : HostRecord} (h : s.Marked) (hr : r ∈ s.engine.queue) (o : TxnOutcome)
    (reason : Byte) (data : List Byte) : (s.completeHost r o reason data).Marked := by
  refine ⟨?_, ?_⟩ <;> rw [State.completeHost_batch]
  · exact h.markers.completeHost hr o reason data
  · exact h.rests

/-- The other records of a list stay in the queue as the first completes. -/
theorem State.Markers.mem_queue_completeHost {r x : HostRecord} {rest : List HostRecord} (h : s.Markers tags out)
    (hn : (r :: rest).Nodup) (hq : ∀ y ∈ r :: rest, y ∈ s.engine.queue) (hx : x ∈ rest) (o : TxnOutcome) (reason : Byte)
    (data : List Byte) : x ∈ (s.completeHost r o reason data).engine.queue := by
  have queued : x ∈ s.engine.queue := hq x (List.mem_cons_of_mem _ hx)
  have other : x.tag ≠ r.tag := fun ht =>
    (List.nodup_cons.mp hn).1 (HostRecord.eq_of_tag h.queueTags_nodup queued (hq r List.mem_cons_self) ht ▸ hx)
  rw [State.completeHost_queue]
  exact (List.mem_eraseP_of_neg (by simpa using other)).mpr queued

theorem State.Marked.completeAll {rs : List HostRecord} (h : s.Marked) (hn : rs.Nodup) (hq : ∀ r ∈ rs, r ∈ s.engine.queue)
    (o : TxnOutcome) : (s.completeAll o rs).Marked := by
  induction rs generalizing s with
  | nil => exact h
  | cons r rest ih =>
    rw [State.completeAll_cons]
    exact ih (h.completeHost (hq r List.mem_cons_self) o 0 []) (List.nodup_cons.mp hn).2 fun x hx =>
      h.markers.mem_queue_completeHost hn hq hx o 0 []

theorem State.Marked.timeOutRecords (h : s.Marked) : s.timeOutRecords.Marked :=
  h.completeAll (h.markers.queue_nodup.filter _) (fun _ hr => List.mem_of_mem_filter hr) _

theorem State.goneRecords_nodup (h : s.engine.queue.Nodup) (a : StAddr) : (s.goneRecords a).Nodup := by
  refine (h.filter _).append (h.filter _) fun r issued queued => ?_
  have issued := (List.mem_filter.mp issued).2
  have queued := (List.mem_filter.mp queued).2
  simp only [Bool.and_eq_true, bne_iff_ne, beq_iff_eq] at issued queued
  exact issued.2 queued.2

/-- A station's records complete (R112). -/
theorem State.Marked.cascadeHost (h : s.Marked) (a : StAddr) (o : TxnOutcome) : (s.cascadeHost a o).1.Marked := by
  rw [State.cascadeHost_eq h.markers.queueTags_nodup h.markerLaw]
  exact h.completeAll (State.goneRecords_nodup h.markers.queue_nodup a) (fun r hr => (State.mem_goneRecords.mp hr).1) o

/-- The examination completes records to unavailable stations; the record it chooses is in the queue, and to a station
without a marker where it was not issued (R100). -/
theorem State.Marked.examine {rs : List HostRecord} (h : s.Marked) (hn : rs.Nodup) (hq : ∀ r ∈ rs, r ∈ s.engine.queue) :
    (s.examine rs).1.Marked ∧ ∀ r, (s.examine rs).2 = some r → r ∈ (s.examine rs).1.engine.queue ∧
      (r.attempt.wasIssued = false → ((s.examine rs).1.entry r.request.station).marker = none) := by
  induction rs generalizing s with
  | nil => exact ⟨h, fun r hr => by cases hr⟩
  | cons r rest ih =>
    have skipped := ih h (List.nodup_cons.mp hn).2 fun x hx => hq x (List.mem_cons_of_mem _ hx)
    unfold State.examine
    cases state : r.attempt.state with
    | issued => exact skipped
    | waiting =>
      dsimp only
      split
      · refine ⟨h, fun x hx => ?_⟩
        obtain rfl := Option.some.inj hx
        exact ⟨hq r List.mem_cons_self, fun queued => by simp [Attempt.wasIssued, state] at queued⟩
      · exact skipped
    | queued =>
      dsimp only
      split
      · exact ih (h.completeHost (hq r List.mem_cons_self) _ 0 []) (List.nodup_cons.mp hn).2 fun x hx =>
          h.markers.mem_queue_completeHost hn hq hx _ 0 []
      · split
        · next free =>
          refine ⟨h, fun x hx => ?_⟩
          obtain rfl := Option.some.inj hx
          exact ⟨hq r List.mem_cons_self, fun _ => Option.isNone_iff_eq_none.mp free⟩
        · exact skipped

/-! ### A transaction is issued (R102, R103, R126) -/

/-- A station without a marker takes that of a transaction of the batch unit. -/
theorem State.Markers.setMarker (h : s.Markers tags out) (free : (s.entry a).marker = none) (m : Marker)
    {out' : StAddr → List Marker} (self : out' a = [m]) (others : ∀ b, a ≠ b → out' b = out b) :
    (s.setMarker a (some m)).Markers tags out' := by
  refine ⟨h.distinct, h.held, fun b => ?_⟩
  rw [State.entry_setMarker]
  by_cases hb : a = b
  · subst hb
    rw [if_pos rfl, self]
    exact congrArg (· ++ [m]) (h.empty_of_marker_none free).1
  · rw [if_neg hb, others b hb]
    exact h.law b

theorem Attempt.wasIssued_issueAt (f : FrameNo) (t : Token) (x : Attempt) : (x.issueAt f t).wasIssued = true := rfl

/-- A queued record goes in progress as its station's marker is set to it. -/
theorem State.Markers.markRecord {before after : List HostRecord} {r : HostRecord} {x : Attempt} (h : s.Markers tags out)
    (split : s.engine.queue = before ++ r :: after) (free : (s.entry r.request.station).marker = none)
    (issued : x.wasIssued = true) :
    ((s.setMarker r.request.station (some ⟨.host, r.tag⟩)).setAttempt r.tag x).Markers tags out := by
  have nodup := h.queueTags_nodup
  have middle := State.setAttempt_middle (s := s.setMarker r.request.station (some ⟨.host, r.tag⟩)) split nodup x
  have names : (before ++ { r with attempt := x } :: after).map HostRecord.tag = s.engine.queue.map HostRecord.tag := by
    rw [split, List.map_append, List.map_append, List.map_cons, List.map_cons]
  rw [middle]
  refine ⟨?_, ?_, fun b => ?_⟩
  · change ((before ++ { r with attempt := x } :: after).map HostRecord.tag ++ tags).Nodup
    rw [names]; exact h.distinct
  · change ∀ tag ∈ (before ++ { r with attempt := x } :: after).map HostRecord.tag ++ tags, tag ∈ s.link.tags
    rw [names]; exact h.held
  · have law := h.law b
    change ((before ++ { r with attempt := x } :: after).filter (HostRecord.marking b)).map _ ++ out b =
      ((s.setMarker r.request.station (some ⟨.host, r.tag⟩)).entry b).marker.toList
    rw [State.entry_setMarker]
    by_cases hb : r.request.station = b
    · subst hb
      obtain ⟨idle, none⟩ := h.empty_of_marker_none free
      rw [State.hostOutstanding, split, List.map_eq_nil_iff, List.filter_append, List.append_eq_nil_iff] at idle
      obtain ⟨left, rest⟩ := idle
      have right : after.filter (HostRecord.marking r.request.station) = [] := by
        cases hm : r.marking r.request.station with
        | true => rw [List.filter_cons_of_pos hm] at rest; cases rest
        | false => rwa [List.filter_cons_of_neg (by simp [hm])] at rest
      have now : ({ r with attempt := x } : HostRecord).marking r.request.station = true :=
        HostRecord.marking_iff.mpr ⟨rfl, issued⟩
      rw [if_pos rfl, none, List.filter_append, left, List.filter_cons_of_pos now, right]
      rfl
    · have away : ∀ y : Attempt, ¬ ({ r with attempt := y } : HostRecord).marking b = true := fun y hm =>
        hb (HostRecord.marking_iff.mp hm).1
      rw [if_neg hb, List.filter_append, List.filter_cons_of_neg (away x), ← List.filter_append]
      rwa [State.hostOutstanding, split, List.filter_append, List.filter_cons_of_neg (away r.attempt),
        ← List.filter_append] at law

/-- A reissue changes the port alone (R103). -/
theorem State.issueRequest_again {req : TxnRequest} {x : Attempt} (again : x.wasIssued = true) (user : PairUser)
    (m : Marker) : ∃ p, s.issueRequest user m req x = s.withPort p := by
  simp only [State.issueRequest, again, if_true]
  exact ⟨_, rfl⟩

/-- A first issue sets the station's marker, and besides changes tokens and the port (R102, R103, R126). -/
theorem State.issueRequest_first {req : TxnRequest} {x : Attempt} (first : x.wasIssued = false) (user : PairUser)
    (m : Marker) : ∃ p tokens, s.issueRequest user m req x =
      ((s.setMarker req.station (some m)).withEngine { s.engine with tokens := tokens }).withPort p := by
  simp only [State.issueRequest, first, Bool.false_eq_true, if_false]
  exact ⟨_, _, rfl⟩

/-- A host record is issued: at a first issue to a station without a marker (R100, R103). -/
theorem State.Marked.issueHost {r : HostRecord} (h : s.Marked) (hr : r ∈ s.engine.queue)
    (free : r.attempt.wasIssued = false → (s.entry r.request.station).marker = none) : (s.issueHost r).Marked := by
  rw [State.issueHost]
  have issued := r.attempt.wasIssued_issueAt s.frame (s.issueToken r.request r.attempt)
  generalize r.attempt.issueAt s.frame (s.issueToken r.request r.attempt) = x at issued
  cases hi : r.attempt.wasIssued with
  | true =>
    obtain ⟨p, again⟩ := s.issueRequest_again (req := r.request) hi (.hostRecord r.tag) ⟨.host, r.tag⟩
    have same : SameMarking s (s.setAttempt r.tag x) :=
      State.setAttempt_sameMarking h.markers.queueTags_nodup hr (issued.trans hi.symm)
    have sent : SameMarking (s.setAttempt r.tag x) ((s.withPort p).setAttempt r.tag x) := .of_eq rfl rfl rfl rfl
    rw [again]
    exact (same.trans sent).marked h
  | false =>
    obtain ⟨p, tokens, first⟩ := s.issueRequest_first (req := r.request) hi (.hostRecord r.tag) ⟨.host, r.tag⟩
    obtain ⟨before, after, split⟩ := List.append_of_mem hr
    have marked := h.markers.markRecord split (free hi) issued
    rw [first]
    exact ⟨⟨marked.distinct, marked.held, marked.law⟩, h.rests⟩

/-- An item's attempt changes, and is in progress where it was. -/
theorem BatchState.outstanding_attempt {l : BatchList} {r : BatchRun} {c : CurrentItem} {x : Attempt}
    (hc : r.current = some c) (hx : x.wasIssued = c.attempt.wasIssued) (a : StAddr) :
    (BatchState.running l { r with current := some { c with attempt := x } }).outstanding a =
      (BatchState.running l r).outstanding a := by
  simp only [BatchState.outstanding, hc, hx]

/-- The batch unit's item is issued: at a first issue to a station without a marker (R124, R126). -/
theorem State.Marked.issueBatch {l : BatchList} {r : BatchRun} {c : CurrentItem} {it : TxnRequest} (h : s.Marked)
    (ready : s.BatchReady l r c it) : (s.issueBatch l r c it).Marked := by
  obtain ⟨hb, hw, -, hc, hi, free⟩ := ready
  have markers := h.markers
  rw [hb] at markers
  rw [State.issueBatch]
  have issued := c.attempt.wasIssued_issueAt s.frame (s.issueToken it c.attempt)
  generalize c.attempt.issueAt s.frame (s.issueToken it c.attempt) = x at issued
  refine ⟨?_, fun waiting => Bool.noConfusion (hw.symm.trans waiting)⟩
  rcases free with ⟨queued, free⟩ | ⟨waiting, -⟩
  · obtain ⟨p, tokens, first⟩ := s.issueRequest_first (req := it) (x := c.attempt) (by simp [Attempt.wasIssued, queued])
      (.batchItem r.pass c.index) ⟨.batch, r.tag⟩
    have marked := markers.setMarker free ⟨.batch, r.tag⟩
      (out' := fun a => (BatchState.running l { r with current := some { c with attempt := x } }).outstanding a)
      (by simp [BatchState.outstanding, hi, issued])
      (fun b hb => by simp [BatchState.outstanding, hi, hc, hb])
    rw [first]
    exact ⟨marked.distinct, marked.held, marked.law⟩
  · have again : c.attempt.wasIssued = true := by simp [Attempt.wasIssued, waiting]
    obtain ⟨p, same⟩ := s.issueRequest_again (req := it) again (.batchItem r.pass c.index) ⟨.batch, r.tag⟩
    rw [same]
    refine ⟨markers.distinct, markers.held, fun a => ?_⟩
    exact (congrArg (s.hostOutstanding a ++ ·) (BatchState.outstanding_attempt hc (issued.trans again.symm) a)).trans
      (markers.law a)

end Sys2Proof.Machine
end

section
/-! The outstanding markers, kept by the batch unit: an item that ends, the items and passes that follow, and the responses to a
frame start, to a free place and to frames stopping. -/

namespace Sys2Proof.Machine

variable {s t : State} {a : StAddr} {l : BatchList} {r : BatchRun} {c : CurrentItem} {tag : Byte}

/-- A run with this tag has no item in progress (R128). -/
def State.BetweenItems (tag : Byte) (s : State) : Prop := s.Markers [tag] fun _ => []

/-! ### Items and passes (R122, R123, R128, R130) -/

/-- A fresh item is in progress to no station (R125). -/
theorem BatchState.outstanding_fresh {n : Nat} (hc : r.current = some ⟨n, Attempt.fresh⟩) (a : StAddr) :
    (BatchState.running l r).outstanding a = [] := by
  cases hi : l.item n with
  | none => simp [BatchState.outstanding, hc, hi]
  | some it => simp [BatchState.outstanding, hc, hi, Attempt.wasIssued, Attempt.fresh]

/-- The run's state is stored, with no item in progress. -/
theorem State.BetweenItems.setBatch_running (h : s.BetweenItems tag) (htag : r.tag = tag)
    (idle : ∀ a, (BatchState.running l r).outstanding a = []) (rests : r.waiting = true → r.current = none) :
    (s.setBatch (.running l r)).Marked := by
  subst htag
  refine ⟨⟨h.distinct, h.held, fun a => ?_⟩, rests⟩
  exact (congrArg (s.hostOutstanding a ++ ·) (idle a)).trans (h.law a)

theorem State.BetweenItems.setBatch (h : s.BetweenItems tag) (b : BatchState) : (s.setBatch b).BetweenItems tag :=
  ⟨h.distinct, h.held, h.law⟩

theorem State.BetweenItems.onDelivery (h : s.BetweenItems tag) (f : Delivery → Delivery) :
    (s.onDelivery f).BetweenItems tag :=
  ⟨h.distinct, h.held, h.law⟩

/-- The end of a pass: with the final one the tag is released, else the run stays between items (R130). -/
theorem State.BetweenItems.endPass (h : s.BetweenItems r.tag) (cause : EndCause) (oc : List (Option ItemOutcome)) :
    (s.endPass l r cause oc).Marked ∧
      (finalPass cause r = false → (s.endPass l r cause oc).BetweenItems r.tag) := by
  unfold State.endPass
  cases final : finalPass cause r with
  | true =>
    refine ⟨⟨⟨?_, fun tag htag => ?_, h.law⟩, trivial⟩, fun no => nomatch no⟩
    · exact h.distinct.sublist ((List.nil_sublist _).append_left _)
    · obtain ⟨-, -, others⟩ := List.nodup_append.mp h.distinct
      replace htag : tag ∈ s.engine.queue.map HostRecord.tag :=
        (List.mem_append.mp htag).resolve_right List.not_mem_nil
      exact (List.mem_erase_of_ne (others tag htag _ (List.mem_singleton_self _))).mpr
        (h.held tag (List.mem_append_left _ htag))
  | false =>
    exact ⟨(h.onDelivery _).setBatch_running rfl (fun _ => rfl) fun _ => rfl, fun _ => (h.onDelivery _).setBatch _⟩

theorem State.BetweenItems.holdProgress (h : s.BetweenItems r.tag) (hw : r.waiting = false) (p : PassProgress) :
    (s.holdProgress l r p).1.Marked ∧
      ((s.holdProgress l r p).2 = true → (s.holdProgress l r p).1.BetweenItems r.tag) := by
  cases p with
  | pendingItem i oc =>
    refine ⟨h.setBatch_running rfl (fun a => ?_) fun waiting => ?_, fun no => nomatch no⟩
    · exact BatchState.outstanding_fresh rfl a
    · exact Bool.noConfusion (hw.symm.trans waiting)
  | ended cause oc =>
    obtain ⟨marked, between⟩ := h.endPass cause oc (l := l)
    exact ⟨marked, fun again => between (by simpa [State.holdProgress] using again)⟩

theorem State.BetweenItems.startPass (h : s.BetweenItems r.tag) :
    (s.startPass l r).1.Marked ∧ ((s.startPass l r).2 = true → (s.startPass l r).1.BetweenItems r.tag) := by
  unfold State.startPass
  split
  · exact State.BetweenItems.holdProgress (r := { r with waiting := false, current := none }) (h.onDelivery _) rfl _
  · exact ⟨h.setBatch_running rfl (fun _ => rfl) fun _ => rfl, fun no => nomatch no⟩

/-- Pass after pass, from a state in which the run has no item in progress. -/
theorem State.BetweenItems.runPasses (n : Nat) (h : s.BetweenItems r.tag) (hs : s.Marked) :
    (s.runPasses n l r).Marked := by
  induction n generalizing r s with
  | zero => exact hs
  | succ n ih =>
    obtain ⟨marked, between⟩ := h.startPass (l := l)
    simp only [State.runPasses]
    split
    · next again => exact ih (r := { r with pass := r.pass + 1 }) (between again) marked
    · exact marked

theorem State.BetweenItems.continueRun (h : s.BetweenItems r.tag) (hw : r.waiting = false) (p : PassProgress) :
    (s.continueRun l r p).Marked := by
  obtain ⟨marked, between⟩ := h.holdProgress hw p (l := l)
  simp only [State.continueRun]
  split
  · next again =>
    exact State.BetweenItems.runPasses (r := { r with pass := r.pass + 1, waiting := false }) _ (between again) marked
  · exact marked

/-! ### The current item (R126 to R129, R131) -/

/-- The current item's marker is cleared: the run is between items. -/
theorem State.Marked.clearItem (h : s.Marked) (hb : s.batch.state = .running l r) (hc : r.current = some c) :
    (s.clearItem l c).BetweenItems r.tag := by
  have markers := h.markers
  rw [hb] at markers
  rw [State.BetweenItems, State.clearItem_eq]
  refine ⟨markers.distinct, markers.held, fun a => ?_⟩
  have law := markers.law a
  have single := markers.at_most_one a
  have cleared := s.clearItem_entry l c a
  rw [BatchState.outstanding_running hc] at law single
  change s.hostOutstanding a ++ [] = ((s.clearItem l c).entry a).marker.toList
  rw [cleared, List.append_nil]
  by_cases hm : c.Marks l a
  · rw [if_pos hm, List.length_append, List.length_singleton] at single
    rw [if_pos hm]
    exact List.length_eq_zero_iff.mp (by omega)
  · rw [if_neg hm, List.append_nil] at law
    rwa [if_neg hm]

theorem State.Marked.not_waiting (h : s.Marked) (hb : s.batch.state = .running l r) (hc : r.current = some c) :
    r.waiting = false := by
  have rests := h.rests
  rw [hb] at rests
  cases hw : r.waiting with
  | false => rfl
  | true => rw [rests hw] at hc; cases hc

/-- The current item ends (R128). -/
theorem State.Marked.endItem (h : s.Marked) (hb : s.batch.state = .running l r) (hc : r.current = some c)
    (o : ItemOutcome) : (s.endItem l r c o).Marked := by
  rw [State.endItem_eq]
  exact (h.clearItem hb hc).continueRun (h.not_waiting hb hc) _

/-- The current item ends as the abort-requested flag is set (R129). -/
theorem State.Marked.endItem_aborting (h : s.Marked) (hb : s.batch.state = .running l r) (hc : r.current = some c)
    (o : ItemOutcome) : (s.endItem l { r with abort := true } c o).Marked := by
  have waiting := h.not_waiting hb hc
  have between := h.clearItem hb hc
  rw [State.endItem_eq]
  exact State.BetweenItems.continueRun (r := { r with abort := true }) between waiting _

/-- The run's item takes an attempt that is in progress where its own was. -/
theorem State.setBatch_attempt_sameMarking {x : Attempt} (hb : s.batch.state = .running l r) (hc : r.current = some c)
    (hx : x.wasIssued = c.attempt.wasIssued) :
    SameMarking s (s.setBatch (.running l { r with current := some { c with attempt := x } })) where
  queue := rfl
  host _ := rfl
  batchTags := by rw [hb]; rfl
  item a := by
    rw [hb]
    exact BatchState.outstanding_attempt hc hx a
  rests hr := fun waiting => by
    rw [hb] at hr
    rw [hr waiting] at hc
    cases hc
  tags := rfl
  marker _ := rfl

/-- The abort-requested flag is set, or the end of a run that waits is decided (R129, R132). -/
theorem State.setBatch_flags_sameMarking (hb : s.batch.state = .running l r) (abort : Bool) (decided : Option EndCause) :
    SameMarking s (s.setBatch (.running l { r with abort := abort, decided := decided })) where
  queue := rfl
  host _ := rfl
  batchTags := by rw [hb]; rfl
  item a := by rw [hb]; rfl
  rests hr := by rw [hb] at hr; exact hr
  tags := rfl
  marker _ := rfl

theorem Attempt.wasIssued_of_fail {limit : Nat} {f : FrameNo} {x y : Attempt} (h : x.fail limit f = .waits y) :
    y.wasIssued = true := by
  unfold Attempt.fail at h
  split at h
  · cases h
  · obtain rfl := AnswerEffect.waits.inj h
    rfl

/-- A transaction that goes on WAITING is in progress (R104, R105). -/
theorem Attempt.wasIssued_of_waits {limit : Nat} {f : FrameNo} {j : Judgement} {x y : Attempt}
    (h : x.answered limit f j = .waits y) : y.wasIssued = true := by
  unfold Attempt.answered at h
  split at h
  · exact Attempt.wasIssued_of_fail h
  · exact Attempt.wasIssued_of_fail h
  · split at h
    · exact Attempt.wasIssued_of_fail h
    · split at h
      · cases h
      · split at h
        · cases h
        · obtain rfl := AnswerEffect.waits.inj h
          rfl

/-- The judgement of a REPLY slot acts on an item in progress (R126, R129). -/
theorem State.Marked.answerItem (h : s.Marked) (hb : s.batch.state = .running l r) (hc : r.current = some c)
    (issued : c.attempt.wasIssued = true) (j : Judgement) : (s.answerItem l r c j).Marked := by
  unfold State.answerItem
  split
  · exact h.endItem hb hc _
  · exact h.endItem hb hc _
  · exact h.endItem hb hc _
  · next x waits =>
    split
    · exact h.endItem hb hc _
    · exact (State.setBatch_attempt_sameMarking hb hc ((Attempt.wasIssued_of_waits waits).trans issued.symm)).marked h

theorem State.running_of_notedItem {pass index : Nat} (h : s.notedItem pass index = some (l, r, c)) :
    s.batch.state = .running l r ∧ r.current = some c ∧ c.attempt.state = .issued := by
  unfold State.notedItem at h
  split at h
  · cases h
  · cases h
  · next hb =>
    split at h
    · cases h
    · next hc =>
      split at h
      · next noted =>
        cases h
        exact ⟨hb, hc, noted.2.2⟩
      · cases h

theorem State.running_of_timedOutItem (h : s.timedOutItem = some (l, r, c)) :
    s.batch.state = .running l r ∧ r.current = some c := by
  unfold State.timedOutItem at h
  split at h
  · cases h
  · cases h
  · next hb =>
    split at h
    · cases h
    · next hc =>
      split at h
      · cases h
        exact ⟨hb, hc⟩
      · cases h

theorem State.Marked.timeOutItem (h : s.Marked) : s.timeOutItem.Marked := by
  unfold State.timeOutItem
  split
  · next item =>
    obtain ⟨hb, hc⟩ := State.running_of_timedOutItem item
    exact h.endItem hb hc _
  · exact h

theorem State.Marked.cascadeBatch (h : s.Marked) (a : StAddr) (o : TxnOutcome) : (s.cascadeBatch a o).Marked := by
  by_cases item : ∃ l r c, s.ItemAt a l r c
  · obtain ⟨l, r, c, item⟩ := item
    rw [State.cascadeBatch_of_itemAt item]
    obtain ⟨hb, hc, -⟩ := item
    exact h.endItem hb hc _
  · rw [State.cascadeBatch_none fun l r c at_ => item ⟨l, r, c, at_⟩]
    exact h

/-- Frames stopping ends a run, or decides the end of one that waits (R132). -/
theorem State.Marked.stopBatch (h : s.Marked) (o : TxnOutcome) (cause : EndCause) : (s.stopBatch o cause).Marked := by
  unfold State.stopBatch
  split
  · exact h
  · exact h
  · next l r hb =>
    split
    · split
      · exact h
      · exact (State.setBatch_flags_sameMarking hb r.abort (some cause)).marked h
    · split
      · next c hc => exact h.endItem hb hc _
      · exact h

/-! ### Runs start, and take the place that is offered (R122, R123, R132, R144) -/

theorem State.Marked.of_waiting (h : s.Marked) (hb : s.batch.state = .running l r) (hw : r.waiting = true) :
    s.BetweenItems r.tag := by
  obtain ⟨markers, rests⟩ := h
  rw [hb] at markers rests
  have idle : ∀ a, (BatchState.running l r).outstanding a = [] := fun a => by simp [BatchState.outstanding, rests hw]
  simp only [idle] at markers
  exact markers

/-- A waiting pass takes its reservation in the freed place. -/
theorem State.Marked.takeRoom (h : s.Marked) (offered : s.roomOffered = true) : s.takeRoom.Marked := by
  unfold State.takeRoom
  split
  · exact h
  · exact h
  · next l r hb =>
    have waiting : r.waiting = true := by
      simp only [State.roomOffered, hb, Bool.and_eq_true] at offered
      exact offered.1
    have between := h.of_waiting hb waiting
    split
    · exact ((between.onDelivery _).endPass _ _).1
    · exact State.BetweenItems.runPasses (r := { r with waiting := false }) _ between h

/-- Without a run the batch unit has no tag and no item. -/
theorem State.Marked.of_not_running (h : s.Marked) (hb : ∀ l r, s.batch.state ≠ .running l r) :
    s.Markers [] fun _ => [] := by
  have markers := h.markers
  cases state : s.batch.state with
  | empty => rw [state] at markers; exact markers
  | loaded l => rw [state] at markers; exact markers
  | running l r => exact absurd state (hb l r)

theorem State.Marked.storeList (h : s.Marked) (hb : ∀ l r, s.batch.state ≠ .running l r) (l : BatchList) :
    (s.storeList l).Marked :=
  have idle := h.of_not_running hb
  ⟨⟨idle.distinct, idle.held, idle.law⟩, trivial⟩

theorem State.tagHeld_iff : s.tagHeld tag = true ↔ tag ∈ s.link.tags := List.contains_iff_mem

/-- A run starts under a tag that no operation in progress holds (R122, R158). -/
theorem State.Marked.acceptRun (h : s.Marked) (hb : ∀ l r, s.batch.state ≠ .running l r) (free : s.tagHeld tag = false)
    (l : BatchList) (k : Nat) : (s.acceptRun l tag k).Marked := by
  have idle := h.of_not_running hb
  have fresh : tag ∉ s.link.tags := fun held => by rw [State.tagHeld_iff.mpr held] at free; cases free
  have unused : ∀ x ∈ s.engine.queue.map HostRecord.tag, x ∈ s.link.tags := fun x hx =>
    idle.held x (List.mem_append_left _ hx)
  refine State.BetweenItems.runPasses _ (r := ⟨tag, _, _, _, _, _, _, _⟩) ⟨?_, fun x hx => ?_, idle.law⟩
    ⟨⟨h.markers.distinct, fun x hx => List.mem_append_left _ (h.markers.held x hx), h.markers.law⟩, h.rests⟩
  · exact List.nodup_append.mpr ⟨h.markers.queueTags_nodup, List.nodup_singleton _, fun x hx y hy same =>
      have taken : x = tag := same.trans (List.mem_singleton.mp hy)
      fresh (taken ▸ unused x hx)⟩
  · exact (List.mem_append.mp hx).elim (fun hq => List.mem_append_left _ (unused x hq)) (List.mem_append_right _)

/-! ### Frame start (R76, R101, R127) -/

theorem Attempt.wasIssued_markDueAt (f : FrameNo) (window : Nat) (x : Attempt) :
    (x.markDueAt f window).wasIssued = x.wasIssued := by
  unfold Attempt.markDueAt
  split <;> rfl

theorem State.markHostDue_sameMarking (s : State) : SameMarking s s.markHostDue :=
  State.withQueue_sameMarking rfl (fun _ _ => rfl) fun _ _ _ => by
    simp only [HostRecord.marking, Attempt.wasIssued_markDueAt]

theorem State.markBatchDue_sameMarking (s : State) : SameMarking s s.markBatchDue := by
  unfold State.markBatchDue
  split
  · exact .refl s
  · exact .refl s
  · next hb =>
    split
    · exact .refl s
    · next hc => exact State.setBatch_attempt_sameMarking hb hc (Attempt.wasIssued_markDueAt _ _ _)

theorem State.runningFrameStart_sameMarking (s : State) : SameMarking s s.runningFrameStart := by
  have advanced : SameMarking s (s.mapEntries StationEntry.advance) := State.mapEntries_sameMarking fun e => by
    unfold StationEntry.advance
    split <;> rfl
  exact (advanced.trans (State.markHostDue_sameMarking _)).trans (State.markBatchDue_sameMarking _)

end Sys2Proof.Machine
end

section
/-! The outstanding markers, kept by work on circuits, by reports on stations and their loss, by adoptions, and by frames
stopping. -/

namespace Sys2Proof.Machine

variable {s t : State} {a : StAddr}

section
variable (s : State)

/-! ### Blocks that hold no marker -/

theorem State.withPort_sameMarking (p : Port) : SameMarking s (s.withPort p) := .of_eq rfl rfl rfl rfl

theorem State.withLink_sameMarking {l : Link} (tags : l.tags = s.link.tags) : SameMarking s (s.withLink l) :=
  .of_eq rfl rfl rfl tags

theorem State.onDelivery_sameMarking (f : Delivery → Delivery) : SameMarking s (s.onDelivery f) := .of_eq rfl rfl rfl rfl

theorem State.setDraft_sameMarking (d : Draft) : SameMarking s (s.setDraft d) := .of_eq rfl rfl rfl rfl

/-! ### Circuits -/

theorem State.setCircuit_sameMarking (id : CircuitId) (c : LiveCircuit) : SameMarking s (s.setCircuit id c) :=
  .of_eq (s.setCircuit_roster id c) (s.setCircuit_engine id c) (s.setCircuit_batch id c) (by rw [State.setCircuit_link])

theorem State.rehold_sameMarking (id : CircuitId) (c : LiveCircuit) : SameMarking s (s.rehold id c) :=
  .of_eq (s.rehold_roster id c) (s.rehold_engine id c) (s.rehold_batch id c) (by rw [State.rehold_link])

theorem State.mapLive_sameMarking (f : LiveCircuit → LiveCircuit) : SameMarking s (s.mapLive f) :=
  .of_eq (s.mapLive_roster f) (s.mapLive_engine f) (s.mapLive_batch f) (by rw [State.mapLive_link])

theorem State.raiseLoss_sameMarking (id : CircuitId) (cause : LossCause) : SameMarking s (s.raiseLoss id cause) := by
  unfold State.raiseLoss
  split
  · exact .refl s
  · split
    · exact .refl s
    · exact (s.setCircuit_sameMarking _ _).trans (State.onDelivery_sameMarking _ _)

theorem State.beginOut_sameMarking (id : CircuitId) (c : LiveCircuit) : SameMarking s (s.beginOut id c) := by
  unfold State.beginOut
  split
  · exact s.rehold_sameMarking _ _
  · exact (s.rehold_sameMarking _ _).trans (State.raiseLoss_sameMarking _ _ _)

theorem State.beginIn_sameMarking (id : CircuitId) (c : LiveCircuit) : SameMarking s (s.beginIn id c) := by
  simp only [State.beginIn]
  split
  · exact s.rehold_sameMarking _ _
  · exact (s.rehold_sameMarking _ _).trans (State.raiseLoss_sameMarking _ _ _)

theorem State.sendOut_sameMarking (id : CircuitId) (position : Nat) (d : Dest) :
    SameMarking s (s.sendOut id position d).1 := by
  unfold State.sendOut
  split
  · exact .refl s
  · split
    · exact .refl s
    · exact s.withPort_sameMarking _

theorem State.openCircuit_sameMarking (id : CircuitId) (position : Nat) :
    SameMarking s (s.openCircuit id position).1 := by
  unfold State.openCircuit
  split
  · exact .refl s
  · split
    · unfold State.openOut
      split
      · split
        · exact (s.beginOut_sameMarking _ _).trans (State.sendOut_sameMarking _ _ _ _)
        · exact .refl s
      · exact s.sendOut_sameMarking _ _ _
    · unfold State.openIn
      split
      · dsimp only
        split
        · exact s.beginIn_sameMarking _ _
        · exact .refl s
      · exact .refl s

theorem State.closeOut_sameMarking (id : CircuitId) (position : Nat) : SameMarking s (s.closeOut id position) := by
  unfold State.closeOut
  split
  · exact .refl s
  · split
    · exact .refl s
    · split
      · split
        · exact s.rehold_sameMarking _ _
        · exact s.rehold_sameMarking _ _
      · exact s.setCircuit_sameMarking _ _

theorem State.decideDelivery_sameMarking (id : CircuitId) (c : LiveCircuit) (status : List SlotStatus) (bufs : List Buf) :
    SameMarking s (s.decideDelivery id c status bufs) := by
  unfold State.decideDelivery
  split
  · split
    · exact (s.setCircuit_sameMarking _ _).trans (State.onDelivery_sameMarking _ _)
    · exact (s.rehold_sameMarking _ _).trans (State.raiseLoss_sameMarking _ _ _)
  · exact s.rehold_sameMarking _ _

theorem State.endAssembly_sameMarking (id : CircuitId) : SameMarking s (s.endAssembly id) := by
  unfold State.endAssembly
  split
  · exact .refl s
  · exact s.rehold_sameMarking _ _

theorem State.finishHeardUnit_sameMarking (id : CircuitId) : SameMarking s (s.finishHeardUnit id) := by
  unfold State.finishHeardUnit
  split
  · exact .refl s
  · split
    · exact .refl s
    · split
      · exact s.endAssembly_sameMarking id
      · exact s.decideDelivery_sameMarking _ _ _ _

theorem State.clearCircuit_sameMarking (id : CircuitId) (counters : Bool) :
    SameMarking s (s.clearCircuit id counters) := by
  unfold State.clearCircuit
  split
  · exact .refl s
  · exact s.setCircuit_sameMarking _ _

theorem State.carryOutAdoption_sameMarking : SameMarking s s.carryOutAdoption :=
  .of_eq s.carryOutAdoption_roster s.carryOutAdoption_engine s.carryOutAdoption_batch (by rw [s.carryOutAdoption_link])

theorem State.adoptWithRecord_sameMarking : SameMarking s s.adoptWithRecord :=
  s.carryOutAdoption_sameMarking.trans (State.onDelivery_sameMarking _ _)

end

/-! ### Reports, loss and identity of a station (R74, R75, R81 to R84, R87) -/

theorem State.stationEvent_sameMarking (s : State) (a : StAddr) (ev : StationEvent) (replaced : Bool)
    (i : Option Identity) : SameMarking s (s.stationEvent a ev replaced i) := s.onDelivery_sameMarking _

/-- A station's state changes, its marker kept, and its circuits follow. -/
theorem State.setEntry_followStation_sameMarking {e : StationEntry} (he : e.marker = (s.entry a).marker) :
    SameMarking s ((s.setEntry a e).followStation a) :=
  (State.setEntry_sameMarking he).trans (State.mapLive_sameMarking _ _)

/-- A station's entry changes, its marker kept, and an event is offered. -/
theorem State.setEntry_stationEvent_sameMarking {e : StationEntry} (he : e.marker = (s.entry a).marker)
    (ev : StationEvent) (replaced : Bool) (i : Option Identity) :
    SameMarking s ((s.setEntry a e).stationEvent a ev replaced i) :=
  (State.setEntry_sameMarking he).trans (State.stationEvent_sameMarking _ _ _ _ _)

theorem State.Marked.loseStation (h : s.Marked) (a : StAddr) : (s.loseStation a).Marked := by
  have lost := (State.setEntry_followStation_sameMarking (e := { s.entry a with state := .lost }) rfl).marked h
  exact (State.stationEvent_sameMarking _ _ _ _ _).marked
    ((lost.cascadeHost a .stationLost).cascadeBatch a .stationLost)

theorem State.Marked.excludeNow (h : s.Marked) (a : StAddr) : (s.excludeNow a).1.Marked := by
  have excluded := (State.setEntry_followStation_sameMarking (e := { s.entry a with state := .excluded }) rfl).marked h
  exact (excluded.cascadeHost a .stationExcluded).cascadeBatch a .stationExcluded

theorem State.heard_sameMarking (s : State) (a : StAddr) : SameMarking s (s.heard a) := by
  simp only [State.heard]
  split
  · exact State.setEntry_sameMarking (by rfl)
  · exact State.setEntry_sameMarking (by rfl)
  · exact State.setEntry_stationEvent_sameMarking (by rfl) _ _ _
  all_goals exact .refl s

theorem State.Marked.missed (h : s.Marked) (a : StAddr) : (s.missed a).Marked := by
  have counted : (s.countMiss a).Marked := by
    simp only [State.countMiss]
    split
    · exact State.Marked.loseStation (SameMarking.marked (State.setEntry_sameMarking (by rfl)) h) a
    · split
      · exact SameMarking.marked (State.setEntry_stationEvent_sameMarking (by rfl) _ _ _) h
      · exact SameMarking.marked (State.setEntry_sameMarking (by rfl)) h
  unfold State.missed
  cases (s.entry a).state
  case found | active | faulty => exact counted
  all_goals exact h

theorem State.Marked.report (h : s.Marked) (a : StAddr) (j : Judgement) : (s.report a j).Marked := by
  cases j with
  | good p => exact (s.heard_sameMarking a).marked h
  | bad => exact h.missed a
  | silent => exact h.missed a

theorem State.identified_sameMarking (s : State) (a : StAddr) (i : Identity) : SameMarking s (s.identified a i) := by
  have found : ∀ replaced, SameMarking s
      ((s.setEntry a ((s.entry a).becomeFound i)).stationEvent a .found replaced (some i)) := fun _ =>
    State.setEntry_stationEvent_sameMarking (e := (s.entry a).becomeFound i) rfl _ _ _
  simp only [State.identified]
  split
  · exact found _
  · split
    · split
      · exact .trans (State.setEntry_followStation_sameMarking (by rfl)) (State.stationEvent_sameMarking _ _ _ _ _)
      · exact found _
    · exact found _
  all_goals exact .refl s

theorem State.rollAnswered_sameMarking (s : State) (a : StAddr) (j : Judgement) : SameMarking s (s.rollAnswered a j) := by
  cases j with
  | good p => exact s.identified_sameMarking a _
  | bad => exact .refl s
  | silent => exact .refl s

/-! ### Frames stopping (R9) -/

theorem State.stopBase_sameMarking (s : State) (cause : StopCause) : SameMarking s (s.stopBase cause) :=
  .of_markers (by rw [s.stopBase_engine]) (by rw [s.stopBase_batch]) (by rw [s.stopBase_link]) fun a => by
    rw [s.stopBase_entry]
    rfl

theorem State.stopBatch_engine (s : State) (o : TxnOutcome) (cause : EndCause) : (s.stopBatch o cause).engine = s.engine := by
  unfold State.stopBatch
  split
  · rfl
  · rfl
  · split
    · split <;> rfl
    · split
      · rw [State.endItem_eq, (State.continueRun_frame _ _ _ _).2.2.2.1, State.clearItem_eq]
        rfl
      · rfl

/-- The responses, where the records that they complete are those of the queue, oldest first (R114). -/
theorem State.Marked.stopSteps {steps : List StopStep} (h : s.Marked) (hq : s.engine.queue = stepRecords steps)
    (cause : StopCause) : (s.stopSteps cause steps).Marked := by
  induction steps generalizing s with
  | nil => exact h
  | cons step rest ih =>
    refine ih (s := s.stopStep cause step) ?_ ?_
    · cases step with
      | trunkRecord => exact (State.onDelivery_sameMarking _ _).marked h
      | adoption =>
        simp only [State.stopStep, State.adoptAtStop]
        split
        · exact s.adoptWithRecord_sameMarking.marked h
        · exact h
      | batchEnd => exact h.stopBatch _ _
      | complete r =>
        refine h.completeHost ?_ _ 0 []
        rw [hq]
        exact List.mem_cons_self
    · cases step with
      | trunkRecord => exact hq
      | adoption =>
        simp only [State.stopStep, State.adoptAtStop]
        split
        · rw [s.adoptWithRecord_engine]
          exact hq
        · exact hq
      | batchEnd => rw [State.stopStep, State.stopBatch_engine]; exact hq
      | complete r =>
        have head : s.engine.queue = r :: stepRecords rest := hq
        rw [State.stopStep, State.completeHost_queue, head, List.eraseP_cons_of_pos (by simp)]

theorem State.Marked.framesStop (h : s.Marked) (cause : StopCause) : (s.framesStop cause).Marked := by
  obtain ⟨draw, stopped⟩ := s.framesStop_eq cause
  rw [stopped]
  exact ((s.stopBase_sameMarking cause).marked h).stopSteps (stepRecords_stopOrder _ _).symm cause

end Sys2Proof.Machine
end

section
/-! The law of the outstanding marker, kept by every row: O7. -/

namespace Sys2Proof.Machine

variable {s t : State} {tag : Byte}

/-! ### Slots open (R95, R100, R124) -/

theorem State.Marked.askHost (h : s.Marked) : s.askHost.1.Marked := by
  obtain ⟨marked, chosen⟩ := h.examine h.markers.queue_nodup fun _ hr => hr
  simp only [State.askHost]
  split
  · next r hr =>
    obtain ⟨queued, free⟩ := chosen r hr
    have turned : SameMarking ((s.examine s.engine.queue).1.issueHost r)
        (((s.examine s.engine.queue).1.issueHost r).setTurn .batch) := .of_markers rfl rfl rfl fun _ => rfl
    exact turned.marked (marked.issueHost queued free)
  · exact marked

theorem State.Marked.askBatch (h : s.Marked) : s.askBatch.1.Marked := by
  unfold State.askBatch
  split
  · next l r c it eligible =>
    have turned : SameMarking (s.issueBatch l r c it) ((s.issueBatch l r c it).setTurn .host) :=
      .of_markers rfl rfl rfl fun _ => rfl
    exact turned.marked (h.issueBatch (State.batchReady_of_eligible eligible))
  · exact h

theorem State.Marked.serveByTurn (h : s.Marked) : s.serveByTurn.Marked := by
  unfold State.serveByTurn
  cases s.engine.turn with
  | host =>
    dsimp only
    split
    · exact h.askHost
    · split
      · exact h.askHost.askBatch
      · exact (State.withPort_sameMarking _ _).marked h.askHost.askBatch
  | batch =>
    dsimp only
    split
    · exact h.askBatch
    · split
      · exact h.askBatch.askHost
      · exact (State.withPort_sameMarking _ _).marked h.askBatch.askHost

theorem State.Marked.arbitrate (h : s.Marked) (k : Nat) : (s.arbitrate k).Marked := by
  have bids : ∀ b, (s.sendBid b).Marked := fun b => by
    refine SameMarking.marked (s := s) ?_ h
    cases b <;> exact .of_markers rfl rfl rfl fun _ => rfl
  unfold State.arbitrate
  split
  · split
    · exact bids _
    · exact (s.withPort_sameMarking _).marked h
  · split
    · split
      · exact bids _
      · exact h.serveByTurn
    · exact h.serveByTurn

theorem State.Marked.openUse (h : s.Marked) (k : Nat) : (s.openUse k).1.Marked := by
  unfold State.openUse
  split
  · exact h.arbitrate k
  · exact h
  · exact (s.openCircuit_sameMarking _ _).marked h
  · exact h

theorem State.Marked.openNext (h : s.Marked) : s.openNext.Marked := by
  unfold State.openNext
  split
  · next k _ =>
    have released := (s.withPort_sameMarking s.port.release).marked h
    exact (State.withPort_sameMarking _ _).marked (released.openUse k)
  · exact h

/-! ### Slots close (R16 to R18, R104, R105, R113) -/

theorem State.countStray_sameMarking (s : State) (j : Judgement) : SameMarking s (s.countStray j) := by
  cases j with
  | good _ => exact .of_markers rfl rfl rfl fun _ => rfl
  | bad => exact .refl s
  | silent => exact .refl s

theorem State.Marked.hostAnswered (h : s.Marked) (a : StAddr) (j : Judgement) : (s.hostAnswered tag a j).Marked := by
  unfold State.hostAnswered
  split
  · exact (s.countStray_sameMarking j).marked h
  · next r found =>
    have queued := List.mem_of_find?_eq_some found
    have chosen := List.find?_some found
    simp only [Bool.and_eq_true, beq_iff_eq] at chosen
    obtain ⟨named, issued⟩ := chosen
    refine State.Marked.report ?_ a j
    split
    · exact h.completeHost queued _ _ _
    · exact h.completeHost queued _ _ _
    · exact h.completeHost queued _ _ _
    · next x waits =>
      have inProgress : x.wasIssued = r.attempt.wasIssued := by
        rw [Attempt.wasIssued_of_waits waits, Attempt.wasIssued, issued]
        rfl
      rw [← named]
      exact (State.setAttempt_sameMarking h.markers.queueTags_nodup queued inProgress).marked h

theorem State.Marked.batchAnswered (h : s.Marked) (pass index : Nat) (a : StAddr) (j : Judgement) :
    (s.batchAnswered pass index a j).Marked := by
  unfold State.batchAnswered
  split
  · exact (s.countStray_sameMarking j).marked h
  · next noted =>
    obtain ⟨hb, hc, issued⟩ := State.running_of_notedItem noted
    exact (h.answerItem hb hc (by rw [Attempt.wasIssued, issued]; rfl) j).report a j

theorem State.Marked.pairAnswered (h : s.Marked) (p : Pair) (j : Judgement) : (s.pairAnswered p j).Marked := by
  unfold State.pairAnswered
  split
  · exact (s.rollAnswered_sameMarking _ j).marked h
  · exact h.report _ j
  · exact h.hostAnswered _ j
  · exact h.batchAnswered _ _ _ j

theorem State.Marked.circuitHeard (h : s.Marked) (id : CircuitId) (position : Nat) (source : StAddr) (j : Judgement) :
    (s.circuitHeard id position source j).Marked := by
  have completed : ∀ (u : State) (a : Assembly), u.Marked → (u.completeUnit id source a).Marked := fun u a hu => by
    unfold State.completeUnit
    split
    · exact ((u.heard_sameMarking source).trans (State.finishHeardUnit_sameMarking _ id)).marked hu
    · exact ((u.endAssembly_sameMarking id).marked hu).missed source
  unfold State.circuitHeard
  split
  · exact h
  · next c _ =>
    split
    · exact h
    · next a _ =>
      have judged : (s.judgeSlot id c a position j).Marked := (s.setCircuit_sameMarking _ _).marked h
      dsimp only
      split
      · exact completed _ _ judged
      · exact judged

theorem State.Marked.closeMode (h : s.Marked) (mode : SlotMode) (line : SlotLine) : (s.closeMode mode line).Marked := by
  cases mode with
  | sendCircuit id position => exact (s.closeOut_sameMarking id position).marked h
  | sendPair => exact h
  | listenCircuit id position source => exact ((s.withPort_sameMarking _).marked h).circuitHeard _ _ _ _
  | listenReply =>
    simp only [State.closeMode]
    split
    · exact h
    · exact ((s.withPort_sameMarking _).marked h).pairAnswered _ _
  | quiet => exact (s.withPort_sameMarking _).marked h

theorem State.Marked.closeNow (h : s.Marked) (line : SlotLine) : (s.closeNow line).Marked := by
  unfold State.closeNow
  split
  · exact ((s.withPort_sameMarking _).marked h).closeMode _ _
  · exact h

/-! ### Work owed (log entry 3) -/

theorem State.enterRunning_sameMarking (s : State) : SameMarking s s.enterRunning :=
  ((s.withPort_sameMarking _).trans (State.runningFrameStart_sameMarking _)).trans (State.onDelivery_sameMarking _ _)

theorem State.startFrame_sameMarking (s : State) : SameMarking s s.startFrame := by
  simp only [State.startFrame]
  split
  · exact (s.withPort_sameMarking _).trans (State.runningFrameStart_sameMarking _)
  · exact s.withPort_sameMarking _

theorem State.adoptAtFrameStart_sameMarking (s : State) : SameMarking s s.adoptAtFrameStart :=
  s.adoptWithRecord_sameMarking.trans (State.withPort_sameMarking _ _)

/-- Work that is carried out where it is owed. -/
theorem State.Marked.where_owed {owed : Bool} (h : s.Marked) (done : owed = true → t.Marked) :
    (if owed then t else s).Marked := by
  cases owed with
  | true => exact done rfl
  | false => exact h

theorem State.Marked.settleEntry (h : s.Marked) : s.settleEntry.Marked :=
  h.where_owed fun _ => s.enterRunning_sameMarking.marked h
theorem State.Marked.settleAdoption (h : s.Marked) : s.settleAdoption.Marked :=
  h.where_owed fun _ => s.adoptAtFrameStart_sameMarking.marked h
theorem State.Marked.settleTimeouts (h : s.Marked) : s.settleTimeouts.Marked := h.where_owed fun _ => h.timeOutRecords
theorem State.Marked.settleItemTimeout (h : s.Marked) : s.settleItemTimeout.Marked := h.where_owed fun _ => h.timeOutItem
theorem State.Marked.settleStop (h : s.Marked) : s.settleStop.Marked := h.where_owed fun _ => h.framesStop .stop
theorem State.Marked.settleRoom (h : s.Marked) : s.settleRoom.Marked := h.where_owed h.takeRoom

/-- The responses to a frame start, in each of their six orders. -/
theorem State.Marked.settleInOrder (h : s.Marked) (n : Nat) : (s.settleInOrder n).Marked := by
  unfold State.settleInOrder
  split
  · exact h.settleAdoption.settleTimeouts.settleItemTimeout
  · exact h.settleAdoption.settleItemTimeout.settleTimeouts
  · exact h.settleTimeouts.settleAdoption.settleItemTimeout
  · exact h.settleTimeouts.settleItemTimeout.settleAdoption
  · exact h.settleItemTimeout.settleAdoption.settleTimeouts
  · exact h.settleItemTimeout.settleTimeouts.settleAdoption

theorem State.Marked.settle (h : s.Marked) : s.settle.Marked := by
  have frameStart : s.settleFrameStart.Marked := by
    simp only [State.settleFrameStart]
    split
    · have drawn : SameMarking s.settleEntry (s.settleEntry.withDraws (s.settleEntry.draws + 1)) :=
        .of_eq rfl rfl rfl rfl
      exact (drawn.marked h.settleEntry).settleInOrder _
    · exact h.settleEntry
  unfold State.settle
  split
  · exact h
  · exact frameStart.settleStop.settleRoom

/-! ### The forms of rows -/

/-- A request row keeps the markers where its owner does. -/
theorem State.Marked.takeRequest {b : Bool} {owner : State → State × Answer} (hs : s.Marked)
    (h : takeRequest tag b owner s = .next t) (own : ∀ u : State, u.Marked → (owner u).1.Marked) : t.Marked := by
  obtain ⟨-, rfl⟩ | ⟨-, -, rfl⟩ | ⟨-, -, -, rfl⟩ | ⟨-, -, -, rfl⟩ := takeRequest_cases b t h
  · exact hs
  · exact (State.withLink_sameMarking _ (by rfl)).marked hs.settle
  · exact (State.withLink_sameMarking _ (by rfl)).marked (own _ hs.settle)
  · exact (State.withLink_sameMarking _ (by rfl)).marked hs.settle

/-- A request row whose owner leaves the markers as they are. -/
theorem State.Marked.takeRequest_same {b : Bool} {owner : State → State × Answer} (hs : s.Marked)
    (h : Machine.takeRequest tag b owner s = .next t) (own : ∀ u, SameMarking u (owner u).1) : t.Marked :=
  hs.takeRequest h fun u hu => (own u).marked hu

/-- An event row keeps the markers where its act does. -/
theorem State.Marked.onEvent {occasion : State → Bool} {act : State → State} (hs : s.Marked)
    (h : onEvent occasion act s = .next t) (acts : ∀ u : State, u.Marked → (act u).Marked) : t.Marked := by
  obtain ⟨-, rfl⟩ | ⟨-, -, rfl⟩ | ⟨-, -, rfl⟩ := onEvent_cases t h
  · exact hs
  · exact acts _ hs.settle
  · exact hs.settle

/-- An event row whose act leaves the markers as they are. -/
theorem State.Marked.onEvent_same {occasion : State → Bool} {act : State → State} (hs : s.Marked)
    (h : Machine.onEvent occasion act s = .next t) (acts : ∀ u, SameMarking u (act u)) : t.Marked :=
  hs.onEvent h fun u hu => (acts u).marked hu

/-- A row that carries out owed work keeps the markers where this work does. -/
theorem State.Marked.onOwed {owed : State → Bool} {act : State → State} (hs : s.Marked)
    (h : onOwed owed act s = .next t) (acts : owed s = true → (act s).Marked) : t.Marked := by
  obtain ⟨-, ho, rfl⟩ | ⟨-, rfl⟩ := onOwed_cases t h
  · exact acts ho
  · exact hs

/-! ### Owners of requests that leave the markers as they are -/

theorem checkFields_sameMarking {fault : Option Nat} {go : State → State × Answer} (h : SameMarking s (go s).1) :
    SameMarking s (checkFields fault go s).1 :=
  checkFields_rec (.refl s) fun _ => h

theorem editDraft_sameMarking {go : State → State × Answer} (h : SameMarking s (go s).1) :
    SameMarking s (editDraft go s).1 :=
  editDraft_rec (.refl s) fun _ => h

theorem onLiveOut_sameMarking {id : CircuitId} {go : LiveCircuit → State → State × Answer}
    (h : ∀ c, SameMarking s (go c s).1) : SameMarking s (onLiveOut id go s).1 := by
  unfold onLiveOut
  split
  · exact .refl s
  · split
    · exact h _
    · exact .refl s

theorem ownPut_sameMarking (p : List Byte) (s : State) : SameMarking s (ownPut p s).1 := by
  refine checkFields_sameMarking (onLiveOut_sameMarking fun c => ?_)
  unfold putUnitOn
  split
  · exact .refl s
  · split
    · exact .refl s
    · split
      · exact s.rehold_sameMarking _ _
      · exact .refl s

theorem ownPurge_sameMarking (p : List Byte) (s : State) : SameMarking s (ownPurge p s).1 :=
  checkFields_sameMarking (onLiveOut_sameMarking fun _ => s.rehold_sameMarking _ _)

theorem ownReadCircuit_sameMarking (p : List Byte) (s : State) : SameMarking s (ownReadCircuit p s).1 := by
  refine checkFields_sameMarking ?_
  unfold readCircuitOn
  split
  · exact .refl s
  · exact s.clearCircuit_sameMarking _ _

theorem ownAdmit_sameMarking (p : List Byte) (s : State) : SameMarking s (ownAdmit p s).1 := by
  refine checkFields_sameMarking ?_
  simp only [admitOn]
  split
  · exact State.setEntry_followStation_sameMarking (by rfl)
  · exact State.setEntry_sameMarking (by rfl)
  · exact State.setEntry_sameMarking (by rfl)
  all_goals exact .refl s

theorem ownRelease_sameMarking (p : List Byte) (s : State) : SameMarking s (ownRelease p s).1 := by
  refine checkFields_sameMarking ?_
  simp only [releaseOn]
  split
  · exact State.setEntry_sameMarking (by rfl)
  · exact .refl s

theorem ownStatus_sameMarking (p : List Byte) (s : State) : SameMarking s (ownStatus p s).1 := by
  refine checkFields_sameMarking ?_
  dsimp only
  split
  · exact .of_markers rfl rfl rfl fun _ => rfl
  · exact .refl s

theorem ownConfigure_sameMarking (p : List Byte) (s : State) : SameMarking s (ownConfigure p s).1 := by
  refine checkFields_sameMarking ?_
  unfold configureByState
  split
  · exact .refl s
  · exact .refl s
  · exact .refl s
  · exact s.withPort_sameMarking _
  · split
    · exact .refl s
    · exact s.withPort_sameMarking _

theorem ownStart_sameMarking (s : State) : SameMarking s (ownStart s).1 := by
  obtain same | started := ownStart_cases s
  · rw [same]; exact .refl s
  · rw [started]; exact .of_markers rfl rfl rfl fun _ => rfl

theorem ownDropCircuit_sameMarking (p : List Byte) (s : State) : SameMarking s (ownDropCircuit p s).1 := by
  refine checkFields_sameMarking (editDraft_sameMarking ?_)
  split
  · exact .refl s
  · exact s.setDraft_sameMarking _

theorem ownAdopt_sameMarking (s : State) : SameMarking s (ownAdopt s).1 := by
  have validated : ∀ pending, SameMarking s (adoptValidated pending s).1 := fun pending => by
    unfold adoptValidated
    split
    · exact .refl s
    · split
      · exact .of_eq rfl rfl rfl rfl
      · exact s.carryOutAdoption_sameMarking
  unfold ownAdopt
  cases s.port.trunk
  case off => exact .refl s
  all_goals exact editDraft_sameMarking (validated _)

/-! ### Owners of requests that change transactions -/

theorem State.Marked.checkFields {fault : Option Nat} {go : State → State × Answer} (h : s.Marked) (hg : (go s).1.Marked) :
    (checkFields fault go s).1.Marked :=
  checkFields_rec h fun _ => hg

/-- A QUEUED record under a tag that no operation in progress holds (R98, R158). -/
theorem State.Marked.acceptTransaction (h : s.Marked) (free : s.tagHeld tag = false) (req : TxnRequest) :
    (s.acceptTransaction tag req).Marked := by
  have fresh : tag ∉ s.link.tags := fun held => by rw [State.tagHeld_iff.mpr held] at free; cases free
  have names : ((s.engine.queue ++ [(⟨tag, req, .fresh⟩ : HostRecord)]).map HostRecord.tag ++ s.batch.state.tags).Perm
      (tag :: (s.engine.queue.map HostRecord.tag ++ s.batch.state.tags)) := by
    rw [List.map_append, List.append_assoc]
    exact List.perm_middle
  have held := h.markers.held
  refine ⟨⟨?_, fun x hx => ?_, fun a => ?_⟩, h.rests⟩
  · exact names.nodup_iff.mpr (List.nodup_cons.mpr ⟨fun mem => fresh (held tag mem), h.markers.distinct⟩)
  · rcases List.mem_cons.mp (names.mem_iff.mp hx) with rfl | old
    · exact List.mem_append_right _ (List.mem_singleton_self _)
    · exact List.mem_append_left _ (held x old)
  · have queued : ¬ (⟨tag, req, .fresh⟩ : HostRecord).marking a = true := fun hm =>
      Bool.noConfusion (HostRecord.marking_iff.mp hm).2
    have same : (s.acceptTransaction tag req).hostOutstanding a = s.hostOutstanding a := by
      change ((s.engine.queue ++ [(⟨tag, req, .fresh⟩ : HostRecord)]).filter (HostRecord.marking a)).map _ = _
      rw [List.filter_append, List.filter_cons_of_neg queued, List.filter_nil, List.append_nil]
      rfl
    rw [same]
    exact h.markers.law a

theorem State.Marked.ownTransact (h : s.Marked) (p : List Byte) : (ownTransact tag p s).1.Marked := by
  have resources : ∀ r, (transactByResources tag r s).1.Marked := fun r => by
    unfold transactByResources
    split
    · exact h
    · next free =>
      split
      · exact h
      · split
        · exact h.acceptTransaction (by simpa using free) r
        · exact h
  refine h.checkFields ?_
  unfold transactByState
  cases s.port.trunk
  case off | halted => exact h
  all_goals exact resources _

theorem State.Marked.ownCancel (h : s.Marked) (p : List Byte) : (ownCancel p s).1.Marked := by
  unfold Machine.ownCancel cancelTag
  split
  · exact h
  · next found =>
    have queued := List.mem_of_find?_eq_some found
    split
    · exact h.completeHost queued _ _ _
    · exact h.completeHost queued _ _ _
    · exact h

theorem State.Marked.batchLoadIdle (h : s.Marked) (idle : ∀ l r, s.batch.state ≠ .running l r) (l : BatchList)
    (count : Option Nat) : (batchLoadIdle tag l count s).1.Marked := by
  have stored := h.storeList idle l
  cases count with
  | none => exact stored
  | some k =>
    simp only [Machine.batchLoadIdle, loadAndRun]
    split
    · exact h
    · split
      · exact h
      · next free =>
        have free : (s.storeList l).tagHeld tag = false := Bool.eq_false_iff.mpr free
        exact stored.acceptRun (fun _ _ running => nomatch running) free l k

theorem State.Marked.ownBatchLoad (h : s.Marked) (p : List Byte) : (ownBatchLoad tag p s).1.Marked := by
  refine h.checkFields ?_
  unfold batchLoadByState
  cases hb : s.batch.state with
  | running l r => exact h
  | empty => exact h.batchLoadIdle (fun _ _ running => nomatch hb.symm.trans running) _ _
  | loaded l => exact h.batchLoadIdle (fun _ _ running => nomatch hb.symm.trans running) _ _

theorem State.Marked.ownBatchRun (h : s.Marked) (p : List Byte) : (ownBatchRun tag p s).1.Marked := by
  refine h.checkFields ?_
  unfold batchRunByState
  cases hb : s.batch.state with
  | empty => exact h
  | running l r => exact h
  | loaded l =>
    dsimp only
    split
    · exact h
    · split
      · exact h
      · next free => exact h.acceptRun (fun _ _ running => nomatch hb.symm.trans running) (by simpa using free) l _

/-- BATCH_ABORT on a current item: an item that is ISSUED goes on to its REPLY slot, any other ends at once (R129). -/
theorem State.Marked.abortItem {l : BatchList} {r : BatchRun} {c : CurrentItem} (h : s.Marked)
    (hb : s.batch.state = .running l r) (hc : r.current = some c) : (abortItem l r c s).1.Marked := by
  unfold Machine.abortItem
  split
  · exact (State.setBatch_flags_sameMarking hb true r.decided).marked h
  · exact h.endItem_aborting hb hc ⟨.aborted, []⟩
  · exact h.endItem_aborting hb hc ⟨.notRun, []⟩

theorem State.Marked.ownBatchAbort (h : s.Marked) : (ownBatchAbort s).1.Marked := by
  unfold Machine.ownBatchAbort
  split
  · exact h
  · exact h
  · next l r hb =>
    unfold abortRun
    split
    · exact h
    · split
      · unfold abortWaiting
        split
        · exact h
        · exact (State.setBatch_flags_sameMarking hb r.abort (some .aborted)).marked h
      · split
        · next hc => exact h.abortItem hb hc
        · exact h

theorem State.Marked.ownStop (h : s.Marked) : (ownStop s).1.Marked := by
  have stopped : s.stopRunning.Marked := by
    unfold State.stopRunning
    split
    · exact h.framesStop .stop
    · exact (s.withPort_sameMarking _).marked h
  unfold Machine.ownStop
  split
  · exact h
  · exact h
  · exact (s.withPort_sameMarking _).marked h
  · exact stopped
  · exact stopped

/-! ### Every row -/

theorem State.Marked.collideNow (h : s.Marked) : s.collideNow.Marked := by
  have collided := (s.withPort_sameMarking s.port.collide).marked h
  unfold State.collideNow
  split
  · unfold State.collideAt
    split
    · exact collided.framesStop _
    · exact collided
  · exact h

/-- After a reset there are no transactions and no markers (R72, R94, R118). -/
theorem State.resetBlocks_marked (s : State) (l : Link) : (s.resetBlocks l).Marked := by
  refine ⟨⟨List.nodup_nil, fun _ none => (List.not_mem_nil none).elim, fun a => ?_⟩, trivial⟩
  rw [State.entry, show (s.resetBlocks l).roster.entries = Table.replicate 30 StationEntry.atReset from rfl,
    Table.get_replicate]
  rfl

theorem State.Marked.endReply (h : s.Marked) : s.endReply.Marked := by
  simp only [State.endReply]
  split
  · exact State.resetBlocks_marked _ _
  · exact (s.withLink_sameMarking (by rfl)).marked h

theorem State.beginBoot_sameMarking (s : State) : SameMarking s s.beginBoot := by
  unfold State.beginBoot
  split
  · exact s.withLink_sameMarking (by rfl)
  · exact .refl s

theorem State.beginReply_sameMarking (s : State) : SameMarking s s.beginReply := by
  unfold State.beginReply
  split
  · exact .refl s
  · exact s.withLink_sameMarking (by rfl)

theorem State.beginNotice_sameMarking (s : State) : SameMarking s s.beginNotice := by
  unfold State.beginNotice
  split
  · exact .refl s
  · exact .of_eq rfl rfl rfl rfl

/-- Every row keeps the markers with what they rest on. -/
theorem exec_marked {i : Instr} (hs : s.Marked) (h : exec i s = .next t) : t.Marked := by
  cases i with
  | hello tag p => exact hs.takeRequest_same ((exec_hello s tag p).symm.trans h) fun u => .refl u
  | status tag p => exact hs.takeRequest_same ((exec_status s tag p).symm.trans h) (ownStatus_sameMarking p)
  | restart tag p => exact hs.takeRequest_same ((exec_restart s tag p).symm.trans h) fun u => u.withLink_sameMarking (by rfl)
  | credit tag p =>
    exact hs.takeRequest_same ((exec_credit s tag p).symm.trans h) fun u =>
      checkFields_sameMarking (u.onDelivery_sameMarking _)
  | configure tag p => exact hs.takeRequest_same ((exec_configure s tag p).symm.trans h) (ownConfigure_sameMarking p)
  | start tag p => exact hs.takeRequest_same ((exec_start s tag p).symm.trans h) ownStart_sameMarking
  | stop tag p => exact hs.takeRequest ((exec_stop s tag p).symm.trans h) fun _ hu => hu.ownStop
  | defineCircuit tag p =>
    exact hs.takeRequest_same ((exec_defineCircuit s tag p).symm.trans h) fun u =>
      checkFields_sameMarking (editDraft_sameMarking (u.setDraft_sameMarking _))
  | dropCircuit tag p => exact hs.takeRequest_same ((exec_dropCircuit s tag p).symm.trans h) (ownDropCircuit_sameMarking p)
  | setOpen tag p =>
    exact hs.takeRequest_same ((exec_setOpen s tag p).symm.trans h) fun u =>
      checkFields_sameMarking (editDraft_sameMarking (u.setDraft_sameMarking _))
  | adopt tag p => exact hs.takeRequest_same ((exec_adopt s tag p).symm.trans h) ownAdopt_sameMarking
  | revert tag p =>
    exact hs.takeRequest_same ((exec_revert s tag p).symm.trans h) fun u => editDraft_sameMarking (u.setDraft_sameMarking _)
  | put tag p => exact hs.takeRequest_same ((exec_put s tag p).symm.trans h) (ownPut_sameMarking p)
  | purge tag p => exact hs.takeRequest_same ((exec_purge s tag p).symm.trans h) (ownPurge_sameMarking p)
  | readCircuit tag p => exact hs.takeRequest_same ((exec_readCircuit s tag p).symm.trans h) (ownReadCircuit_sameMarking p)
  | admitStation tag p => exact hs.takeRequest_same ((exec_admitStation s tag p).symm.trans h) (ownAdmit_sameMarking p)
  | excludeStation tag p =>
    exact hs.takeRequest ((exec_excludeStation s tag p).symm.trans h) fun _ hu => hu.checkFields (hu.excludeNow _)
  | releaseStation tag p =>
    exact hs.takeRequest_same ((exec_releaseStation s tag p).symm.trans h) (ownRelease_sameMarking p)
  | queryStation tag p =>
    exact hs.takeRequest_same ((exec_queryStation s tag p).symm.trans h) fun u => checkFields_sameMarking (.refl u)
  | transact tag p => exact hs.takeRequest ((exec_transact s tag p).symm.trans h) fun _ hu => hu.ownTransact p
  | cancel tag p => exact hs.takeRequest ((exec_cancel s tag p).symm.trans h) fun _ hu => hu.ownCancel p
  | batchLoad tag p => exact hs.takeRequest ((exec_batchLoad s tag p).symm.trans h) fun _ hu => hu.ownBatchLoad p
  | batchPreset tag p =>
    exact hs.takeRequest_same ((exec_batchPreset s tag p).symm.trans h) fun u =>
      checkFields_sameMarking (.of_markers rfl rfl rfl fun _ => rfl)
  | batchRun tag p => exact hs.takeRequest ((exec_batchRun s tag p).symm.trans h) fun _ hu => hu.ownBatchRun p
  | batchAbort tag p => exact hs.takeRequest ((exec_batchAbort s tag p).symm.trans h) fun _ hu => hu.ownBatchAbort
  | unknownKind kind tag p =>
    refine hs.onEvent_same ((exec_unknownKind s kind tag p).symm.trans h) fun u => ?_
    split
    · exact u.withLink_sameMarking (by rfl)
    · exact u.withLink_sameMarking (by rfl)
  | backlogDiscard => exact hs.onEvent_same ((exec_backlogDiscard s).symm.trans h) fun u => u.withLink_sameMarking (by rfl)
  | crcError body crc =>
    exact hs.onEvent_same ((exec_crcError s body crc).symm.trans h) fun u => u.withLink_sameMarking (by rfl)
  | formatError cause =>
    exact hs.onEvent_same ((exec_formatError s cause).symm.trans h) fun u => u.withLink_sameMarking (by rfl)
  | interByteTimeout => exact hs.onEvent_same ((exec_interByteTimeout s).symm.trans h) fun u => u.withLink_sameMarking (by rfl)
  | powerOnReset pinLow rate1 rate0 =>
    obtain rfl := Host.Outcome.next.inj h
    exact s.resetBlocks_marked _
  | resetPinAssert => exact hs.onEvent_same ((exec_resetPinAssert s).symm.trans h) fun u => .of_eq rfl rfl rfl rfl
  | resetPinRelease rate1 rate0 =>
    obtain rfl := Host.Outcome.next.inj h
    split
    · exact hs
    · exact s.resetBlocks_marked _
    · exact s.resetBlocks_marked _
  | bootTransmit => exact hs.onEvent_same ((exec_bootTransmit s).symm.trans h) State.beginBoot_sameMarking
  | bootSent => exact hs.onEvent_same ((exec_bootSent s).symm.trans h) fun u => u.withLink_sameMarking (by rfl)
  | replyTransmit => exact hs.onEvent_same ((exec_replyTransmit s).symm.trans h) State.beginReply_sameMarking
  | replySent => exact hs.onEvent ((exec_replySent s).symm.trans h) fun _ hu => hu.endReply
  | noticeTransmit => exact hs.onEvent_same ((exec_noticeTransmit s).symm.trans h) State.beginNotice_sameMarking
  | noticeSent => exact hs.onEvent_same ((exec_noticeSent s).symm.trans h) fun u => .of_eq rfl rfl rfl rfl
  | batchRoomOffer => exact hs.onOwed ((exec_batchRoomOffer s).symm.trans h) hs.takeRoom
  | frameStart => exact hs.onEvent_same ((exec_frameStart s).symm.trans h) State.startFrame_sameMarking
  | enterRunning => exact hs.onOwed ((exec_enterRunning s).symm.trans h) fun _ => s.enterRunning_sameMarking.marked hs
  | adoptionAtRoundStart =>
    exact hs.onOwed ((exec_adoptionAtRoundStart s).symm.trans h) fun _ =>
      (State.adoptAtFrameStart_sameMarking _).marked hs.settleEntry
  | deferTimeout => exact hs.onOwed ((exec_deferTimeout s).symm.trans h) fun _ => hs.timeOutRecords
  | batchItemTimeout => exact hs.onOwed ((exec_batchItemTimeout s).symm.trans h) fun _ => hs.timeOutItem
  | slotOpen => exact hs.onEvent ((exec_slotOpen s).symm.trans h) fun _ hu => hu.openNext
  | slotClose line => exact hs.onEvent ((exec_slotClose s line).symm.trans h) fun _ hu => hu.closeNow line
  | collision => exact hs.onEvent ((exec_collision s).symm.trans h) fun _ hu => hu.collideNow
  | stopComplete => exact hs.onOwed ((exec_stopComplete s).symm.trans h) fun _ => hs.framesStop .stop

/-- Settles O7: a marker is set as its transaction goes out, to a station that had none, and cleared as that transaction ends. -/
theorem markerLawKept : Obligations.MarkerLawKept := fun _ _ _ acc law h => (exec_marked (acc.marked law) h).markerLaw

end Sys2Proof.Machine
end

section
/-! ADMIT by the station's state, RELEASE and QUERY_STATION (R52, R85, R86, R88, R89). -/

namespace Sys2Proof.Machine

variable {s : State} {a : StAddr} {tag addr rejoin : Byte}

/-! ### ADMIT (R52, R86) -/

/-- The address is checked before the auto-rejoin flag. -/
theorem admitFault_eq (addr rejoin : Byte) : admitFault [addr, rejoin] =
    (addressFault [addr]).or (if 1 < rejoin.toNat then some 2 else none) := by
  simp only [admitFault, addressFault, firstFault, numAt, byteAt, List.getD_cons_zero, List.getD_cons_succ,
    decide_eq_true_eq]
  cases stationLegal addr.toNat <;> rfl

theorem exec_admitStation_taken (hs : s.Takes) : exec (.admitStation tag [addr, rejoin]) s =
    .next ((ownAdmit [addr, rejoin] s).1.pushReply tag (ownAdmit [addr, rejoin] s).2) := by
  rw [exec_admitStation, show fixedLength 2 [addr, rejoin] = true from rfl, takeRequest_taken hs]

/-- With both fields legal ADMIT goes by the station's state. -/
theorem exec_admitStation_legal (hs : s.Takes) (haddr : addr.toNat = a.val + 1) (hrejoin : rejoin.toNat ≤ 1) :
    exec (.admitStation tag [addr, rejoin]) s =
      .next ((admitOn a (rejoin == 1) s).1.pushReply tag (admitOn a (rejoin == 1) s).2) := by
  have asked : (numAt [addr, rejoin] 1 == 1) = (rejoin == 1) := by
    rw [show numAt [addr, rejoin] 1 = rejoin.toNat from rfl, Bool.eq_iff_iff, beq_iff_eq, beq_iff_eq]
    bv_omega
  rw [exec_admitStation_taken hs, ownAdmit, admitFault_eq, addressFault_none haddr,
    Option.none_or, if_neg (Nat.not_lt.mpr hrejoin), checkFields, asked,
    show stationOf (numAt [addr, rejoin] 0) = a from stationOf_succ haddr]

/-- A station becomes fit: its entry is set and its circuits resume, and nothing else changes (R52). -/
theorem State.entry_fit_follows (s : State) (a : StAddr) {e : StationEntry} (fit : e.state.fit = true) :
    let t := (s.setEntry a e).followStation a
    t.roster = (s.setEntry a e).roster ∧
      (∀ id, t.circuit id = (s.circuit id).map fun c =>
        if c.defn.station? = some a ∧ c.run.runState = .stalled then c.resume else c) ∧
      t.port = s.port ∧ t.engine = s.engine ∧ t.batch = s.batch ∧ t.delivery = s.delivery ∧ t.link = s.link ∧
      t.sched.draft = s.sched.draft ∧ t.sched.adoptPending = s.sched.adoptPending := by
  have inner := s.setEntry_followStation_inner a e
  have entry : ((s.setEntry a e).entry a).state.fit = true := by rwa [State.entry_setEntry_self]
  exact ⟨State.mapLive_roster _ _, State.circuit_followStation_fit entry, inner.port, State.mapLive_engine _ _,
    State.mapLive_batch _ _, State.followStation_delivery_of_fit entry, State.mapLive_link _ _, inner.draft, inner.adopting⟩

/-- Settles O41: the two field checks, then the station's state; the circuits of a station admitted now resume. -/
theorem admitByStationState : Obligations.AdmitByStationState := by
  intro tag addr rejoin s hs
  refine ⟨fun illegal => ?address, fun a haddr => ⟨fun large => ?flag, fun legal unfit => ?unfit, fun legal fit => ?fit,
    fun legal found => ?found⟩⟩
  case address => rw [exec_admitStation_taken hs, ownAdmit, admitFault_eq, addressFault_some illegal]; rfl
  case flag => rw [exec_admitStation_taken hs, ownAdmit, admitFault_eq, addressFault_none haddr, if_pos large]; rfl
  case unfit =>
    rw [exec_admitStation_legal hs haddr legal]
    rcases unfit with state | state | state <;> simp only [admitOn, state] <;> rfl
  case fit =>
    rw [exec_admitStation_legal hs haddr legal]
    rcases fit with state | state <;> simp only [admitOn, state] <;> rfl
  case found =>
    refine ⟨_, ?_, s.entry_fit_follows a rfl⟩
    rw [exec_admitStation_legal hs haddr legal]
    simp only [admitOn, found]
    rfl

/-! ### RELEASE and QUERY_STATION (R88, R89) -/

theorem exec_releaseStation_taken (hs : s.Takes) : exec (.releaseStation tag [addr]) s =
    .next ((ownRelease [addr] s).1.pushReply tag (ownRelease [addr] s).2) := by
  rw [exec_releaseStation, show fixedLength 1 [addr] = true from rfl, takeRequest_taken hs]

theorem exec_queryStation_taken (hs : s.Takes) : exec (.queryStation tag [addr]) s =
    .next ((ownQueryStation [addr] s).1.pushReply tag (ownQueryStation [addr] s).2) := by
  rw [exec_queryStation, show fixedLength 1 [addr] = true from rfl, takeRequest_taken hs]

/-- The 15 bytes of an entry, in the words of Table 9.5. -/
theorem StationEntry.bytes_eq (e : StationEntry) : e.bytes =
    [e.state.code, BitVec.ofNat 8 e.missCount, BitVec.ofNat 8 e.sinceHeard] ++
      (match e.identity with
        | none => List.replicate 9 0
        | some i => 1 :: (halfBytes i.class_ ++ [i.revision] ++ wordBytes i.serial ++ [i.profile])) ++
      [if e.autoRejoin then 1 else 0] ++
      match e.marker with
      | none => [0, 0]
      | some ⟨.host, m⟩ => [1, m]
      | some ⟨.batch, m⟩ => [2, m] := by
  have marker : markerBytesOf e.marker = match e.marker with
      | none => [0, 0]
      | some ⟨.host, m⟩ => [1, m]
      | some ⟨.batch, m⟩ => [2, m] := by
    rcases e.marker with _ | ⟨_ | _, m⟩ <;> rfl
  rw [StationEntry.bytes, marker]
  cases e.identity <;> rfl

/-- Settles O43: RELEASE by the one state it takes; QUERY_STATION reads the entry. -/
theorem releaseAndQuery : Obligations.ReleaseAndQuery := by
  refine ⟨rfl, fun tag addr s hs => ⟨fun illegal => ⟨?_, ?_⟩, fun a haddr => ?_⟩⟩
  · rw [exec_releaseStation_taken hs, ownRelease, addressFault_some illegal]
    rfl
  · rw [exec_queryStation_taken hs, ownQueryStation, addressFault_some illegal]
    rfl
  · have station : stationOf (numAt [addr] 0) = a := stationOf_succ haddr
    refine ⟨?release, ?query⟩
    case release =>
      rw [exec_releaseStation_taken hs, ownRelease, addressFault_none haddr, checkFields, station]
      simp only [releaseOn]
      congr 1
      split <;> rfl
    case query =>
      rw [exec_queryStation_taken hs, ownQueryStation, addressFault_none haddr, checkFields, station]
      dsimp only
      rw [StationEntry.bytes_eq]
      rfl

end Sys2Proof.Machine
end

section
/-! TRANSACT by its fields, the trunk state and the resources; CANCEL by the state of the record (R98, R108, R110). -/

namespace Sys2Proof.Machine

variable {s : State} {tag st act hi lo len : Byte} {data : List Byte}

/-! ### The fields of TRANSACT (R98) -/

theorem stationLegal_eq_false_iff {st : Byte} : stationLegal st.toNat = false ↔ st = 0 ∨ 30 < st.toNat := by
  rw [stationLegal, decide_eq_false_iff_not]
  bv_omega

/-- Three codes name an action (R166). -/
theorem actionOf_byte (act : Byte) : actionOf act.toNat =
    if act = 1 then some .fetch else if act = 2 then some .store else if act = 3 then some .swap else none := by
  by_cases fetch : act = 1
  · rw [fetch]; rfl
  by_cases store : act = 2
  · rw [store]; rfl
  by_cases swap : act = 3
  · rw [swap]; rfl
  rw [if_neg fetch, if_neg store, if_neg swap, actionOf]
  all_goals bv_omega

theorem actionOf_isNone_iff {act : Byte} : (actionOf act.toNat).isNone = true ↔ act ≠ 1 ∧ act ≠ 2 ∧ act ≠ 3 := by
  by_cases fetch : act = 1
  · rw [fetch]; decide
  by_cases store : act = 2
  · rw [store]; decide
  by_cases swap : act = 3
  · rw [swap]; decide
  rw [actionOf_byte, if_neg fetch, if_neg store, if_neg swap]
  exact iff_of_true rfl ⟨fetch, store, swap⟩

theorem lengthFits_eq_false_iff {act len : Byte} : lengthFits act.toNat len.toNat = false ↔
    (act = 1 ∧ len ≠ 0) ∨ (act ≠ 1 ∧ (len = 0 ∨ 4 < len.toNat)) := by
  unfold lengthFits
  split
  · rw [beq_eq_false_iff_ne]
    bv_omega
  · rw [decide_eq_false_iff_not]
    bv_omega

/-- The first field that fails, in the words of R98. -/
theorem transactFault_eq : transactFault (st :: act :: hi :: lo :: len :: data) =
    if st = 0 ∨ 30 < st.toNat then some 1
    else if act ≠ 1 ∧ act ≠ 2 ∧ act ≠ 3 then some 2
    else if 4095 < hi.toNat * 256 + lo.toNat then some 3
    else if (act = 1 ∧ len ≠ 0) ∨ (act ≠ 1 ∧ (len = 0 ∨ 4 < len.toNat)) then some 4
    else none := by
  simp only [transactFault, firstFault, num2At, numAt, byteAt, List.getD_cons_zero, List.getD_cons_succ,
    Bool.not_eq_true', stationLegal_eq_false_iff, actionOf_isNone_iff, lengthFits_eq_false_iff, decide_eq_true_eq]

/-- The transaction that TRANSACT carries where its action code is legal (R98). -/
theorem transactRequest_eq (legal : ¬ (act ≠ 1 ∧ act ≠ 2 ∧ act ≠ 3)) :
    transactRequest (st :: act :: hi :: lo :: len :: data) =
      ⟨Fin.ofNat 30 (st.toNat - 1), if act = 1 then .fetch else if act = 2 then .store else .swap,
        BitVec.ofNat 12 (hi.toNat * 256 + lo.toNat), data⟩ := by
  have action : (actionOf act.toNat).getD .fetch = if act = 1 then .fetch else if act = 2 then .store else .swap := by
    rw [actionOf_byte]
    split
    · rfl
    · split
      · rfl
      · rw [if_pos (by tauto)]; rfl
  rw [← action]
  rfl

/-! ### TRANSACT (R98) -/

theorem transactByResources_eq (r : TxnRequest) : transactByResources tag r s =
    if tag ∈ s.link.tags then (s, .refuse .tagBusy)
    else if 24 ≤ s.engine.queue.length then (s, .refuse .queueFull)
    else if 128 ≤ s.delivery.occupancy then (s, .refuse .noRoom)
    else (s.acceptTransaction tag r, .accepted (s.engine.queue.length + 1)) := by
  rw [transactByResources, show Config.hostRecords = 24 from rfl]
  simp only [State.tagHeld_iff, Delivery.hasRoom_iff, ← not_le, ite_not]

/-- OFF and HALTED refuse; the other trunk states go on to the tag and the resources (R98). -/
theorem transactByState_eq (r : TxnRequest) : transactByState tag r s =
    if s.port.trunk = .off ∨ s.port.trunk = .halted then (s, .refuse .wrongState) else transactByResources tag r s := by
  unfold transactByState
  cases s.port.trunk <;> rfl

/-- What TRANSACT with legal fields answers: the trunk state, the tag, the queue and the room decide in this order. -/
theorem transactByState_pushReply (r : TxnRequest) :
    (transactByState tag r s).1.pushReply tag (transactByState tag r s).2 =
      if s.port.trunk = .off ∨ s.port.trunk = .halted then s.replied tag .wrongState 0 []
      else if tag ∈ s.link.tags then s.replied tag .tagBusy 0 []
      else if 24 ≤ s.engine.queue.length then s.replied tag .queueFull 0 []
      else if 128 ≤ s.delivery.occupancy then s.replied tag .noRoom 0 []
      else ({ s with
        delivery.hostRes := s.delivery.hostRes + 1
        link.tags := s.link.tags ++ [tag]
        engine.queue := s.engine.queue ++ [⟨tag, r, ⟨.queued, 0, false, none, none, none, false⟩⟩] } : State).replied tag
          .accepted (s.engine.queue.length + 1) [] := by
  rw [transactByState_eq, transactByResources_eq]
  split
  · rfl
  · split
    · rfl
    · split
      · rfl
      · split <;> rfl

theorem exec_transact_taken (hs : s.Takes) (hn : data.length = len.toNat) (short : data.length ≤ 247) :
    exec (.transact tag (st :: act :: hi :: lo :: len :: data)) s =
      .next ((ownTransact tag (st :: act :: hi :: lo :: len :: data) s).1.pushReply tag
        (ownTransact tag (st :: act :: hi :: lo :: len :: data) s).2) := by
  have fits : payloadFits (st :: act :: hi :: lo :: len :: data) = true :=
    decide_eq_true (Nat.add_le_add_right short 5)
  have length : transactLength (st :: act :: hi :: lo :: len :: data) = true := by
    simp [transactLength, fits, numAt, byteAt, hn]
  rw [exec_transact, length, takeRequest_taken hs]

/-- Settles O44: the first field that fails is named; with legal fields the state decides. -/
theorem transactChecksAndAccepts : Obligations.TransactChecksAndAccepts := by
  intro tag st act hi lo len data s hs hn short
  rw [exec_transact_taken hs hn short, ownTransact, transactFault_eq]
  congr 1
  by_cases station : st = 0 ∨ 30 < st.toNat
  · rw [if_pos station, if_pos station, checkFields, State.pushReply_refuseWith]
  by_cases action : act ≠ 1 ∧ act ≠ 2 ∧ act ≠ 3
  · rw [if_neg station, if_neg station, if_pos action, if_pos action, checkFields, State.pushReply_refuseWith]
  rw [if_neg station, if_neg station, if_neg action, if_neg action]
  split
  · rw [checkFields, State.pushReply_refuseWith]
  · split
    · rw [checkFields, State.pushReply_refuseWith]
    · rw [checkFields, transactRequest_eq action, transactByState_pushReply]

/-! ### CANCEL (R108, R110) -/

section
variable {before after : List HostRecord} {r : HostRecord} (oldest : ∀ q ∈ before, q.tag ≠ r.tag)
include oldest

/-- The oldest record with a tag is the first one in the queue (R97, R110). -/
theorem HostRecord.find?_first : (before ++ r :: after).find? (fun x => x.tag == r.tag) = some r := by
  rw [List.find?_append, List.find?_eq_none.mpr (by simpa using oldest), Option.none_or,
    List.find?_cons_of_pos (by simp)]

theorem HostRecord.eraseP_first : (before ++ r :: after).eraseP (fun x => x.tag == r.tag) = before ++ after := by
  rw [List.eraseP_append_right _ (by simpa using oldest), List.eraseP_cons_of_pos (by simp)]

/-- The oldest record with its tag completes: the other records stay, even one behind it with the same tag (R108). -/
theorem State.completeHost_first (hq : s.engine.queue = before ++ r :: after) (o : TxnOutcome) (reason : Byte)
    (bytes : List Byte) : s.completeHost r o reason bytes = { s with
      engine.queue := before ++ after
      roster := if r.attempt.wasIssued = true then (s.setEntry r.request.station
          { s.entry r.request.station with marker := none }).roster else s.roster
      delivery.hostRes := s.delivery.hostRes - 1
      delivery.records := s.delivery.records ++ [.done r.tag o reason bytes]
      link.tags := s.link.tags.erase r.tag } := by
  rw [← HostRecord.eraseP_first oldest, ← hq]
  unfold State.completeHost
  cases r.attempt.wasIssued <;> rfl

end

theorem exec_cancel_taken {target : Byte} (hs : s.Takes) : exec (.cancel tag [target]) s =
    .next ((cancelTag target s).1.pushReply tag (cancelTag target s).2) := by
  rw [exec_cancel, show fixedLength 1 [target] = true from rfl, takeRequest_taken hs]
  rfl

/-- Settles O45: the oldest record with the tag decides by its state; QUEUED and WAITING complete. -/
theorem cancelByRecordState : Obligations.CancelByRecordState := by
  refine fun tag target s hs => ⟨fun absent => ?_, fun before after r hq htag oldest => ?_⟩
  · have noRecord : s.engine.queue.find? (fun r => r.tag == target) = none :=
      List.find?_eq_none.mpr (by simpa using absent)
    rw [exec_cancel_taken hs, cancelTag, noRecord]
    rfl
  · subst htag
    have found : s.engine.queue.find? (fun x => x.tag == r.tag) = some r := by rw [hq, HostRecord.find?_first oldest]
    rw [exec_cancel_taken hs, cancelTag, found]
    cases state : r.attempt.state with
    | issued => simp only [state]; rfl
    | queued =>
      have wasIssued : ¬ r.attempt.wasIssued = true := by simp [Attempt.wasIssued, state]
      simp only [state, State.completeHost_first oldest hq, if_neg wasIssued]
      rfl
    | waiting =>
      have wasIssued : r.attempt.wasIssued = true := by simp [Attempt.wasIssued, state]
      simp only [state, State.completeHost_first oldest hq, if_pos wasIssued]
      rfl

end Sys2Proof.Machine
end

section
/-! The passes of a batch run: the items of a pass in their order, pass after pass, and what follows the end of an item
(R122, R123, R125, R128, R130). -/

namespace Sys2Proof.Machine

variable {s : State} {l : BatchList} {r : BatchRun} {c : CurrentItem} {it : TxnRequest} {o : ItemOutcome}
  {cause : EndCause} {oc : List (Option ItemOutcome)}

/-! ### The items of a pass (R125, R128) -/

/-- An item to this station ends at once as it becomes current (R125). -/
abbrev Unreachable (entries : Table StationEntry 30) (it : TxnRequest) : Prop :=
  (entries.get it.station).state.unavailable = true

/-- The outcome entries from place `i` on, `n` of them, STATION_UNAVAILABLE (R128). -/
def unavailableFrom (i n : Nat) (oc : List (Option ItemOutcome)) : List (Option ItemOutcome) :=
  (List.range n).foldl (fun oc j => oc.set (i + j) (some ⟨.stationUnavailable, []⟩)) oc

@[simp] theorem unavailableFrom_zero (i : Nat) : unavailableFrom i 0 oc = oc := rfl

theorem unavailableFrom_succ (i n : Nat) :
    unavailableFrom i (n + 1) oc = unavailableFrom (i + 1) n (oc.set i (some ⟨.stationUnavailable, []⟩)) := by
  simp only [unavailableFrom, List.range_succ_eq_map, List.foldl_cons, List.foldl_map, Nat.add_zero]
  simp only [Nat.succ_eq_add_one, Nat.add_assoc, Nat.add_comm 1]

/-- On the blank entries of a pass that starts. -/
theorem unavailableFrom_blank (n m : Nat) : unavailableFrom 0 n (List.replicate (n + m) none) =
    List.replicate n (some ⟨.stationUnavailable, []⟩) ++ List.replicate m none := by
  suffices h : ∀ done : List (Option ItemOutcome), unavailableFrom done.length n (done ++ List.replicate (n + m) none) =
      done ++ (List.replicate n (some ⟨.stationUnavailable, []⟩) ++ List.replicate m none) from h []
  induction n with
  | zero => intro done; simp
  | succ n ih =>
    intro done
    have place : (done ++ List.replicate (n + 1 + m) none).set done.length (some ⟨.stationUnavailable, []⟩) =
        (done ++ [some ⟨.stationUnavailable, []⟩]) ++ List.replicate (n + m) none := by
      rw [Nat.add_right_comm, List.replicate_succ]
      simp
    have next := ih (done ++ [some ⟨.stationUnavailable, []⟩])
    rw [List.length_append, List.length_singleton] at next
    rw [unavailableFrom_succ, place, next, List.replicate_succ]
    simp

section
variable {policy : Policy} {entries : Table StationEntry 30} {before after items : List TxnRequest} {next : TxnRequest}

/-- Under CONTINUE the items to unavailable stations end one after another. -/
theorem passItems_continue (gone : ∀ b ∈ before, Unreachable entries b) (i : Nat) (oc : List (Option ItemOutcome)) :
    passItems .continue_ entries (before ++ items) (i + 1) oc =
      passItems .continue_ entries items (i + before.length + 1) (unavailableFrom i before.length oc) := by
  induction before generalizing i oc with
  | nil => rfl
  | cons b rest ih =>
    obtain ⟨first, others⟩ := List.forall_mem_cons.mp gone
    rw [List.cons_append, passItems, if_pos first, List.length_cons, unavailableFrom_succ, Nat.add_sub_cancel]
    exact (ih others (i + 1) _).trans (by rw [Nat.add_right_comm i 1, Nat.add_assoc i])

theorem passItems_pending (gone : ∀ b ∈ before, Unreachable entries b)
    (there : (entries.get next.station).state.unavailable = false)
    (goesOn : policy = .continue_ ∨ before = []) (i : Nat) : passItems policy entries (before ++ next :: after) (i + 1) oc =
      .pendingItem (i + before.length + 1) (unavailableFrom i before.length oc) := by
  have reached : ∀ j oc, passItems policy entries (next :: after) j oc = .pendingItem j oc := by
    intro j oc
    rw [passItems, there]
    rfl
  rcases goesOn with rfl | rfl
  · rw [passItems_continue gone, reached]
  · exact reached _ _

theorem passItems_failedStop (gone : Unreachable entries next) (i : Nat) :
    passItems .stop entries (next :: after) (i + 1) oc =
      .ended .failedStop (oc.set i (some ⟨.stationUnavailable, []⟩)) := by
  rw [passItems, if_pos gone]
  rfl

theorem passItems_complete (gone : ∀ b ∈ items, Unreachable entries b) (goesOn : policy = .continue_ ∨ items = [])
    (i : Nat) :
    passItems policy entries items (i + 1) oc = .ended .complete (unavailableFrom i items.length oc) := by
  rcases goesOn with rfl | rfl
  · have ended := passItems_continue (items := []) gone i oc
    rwa [List.append_nil] at ended
  · rfl

end

/-! ### The end of a pass (R130) -/

/-- With its final pass the run ends: the tag is released and the batch unit is LOADED. -/
theorem State.endPass_closes (final : finalPass cause r = true) : s.endPass l r cause oc = { s with
    delivery.batchRes := false
    delivery.records := s.delivery.records ++ [.pass r.tag r.pass true cause (oc.map (·.getD ⟨.notRun, []⟩))]
    link.tags := s.link.tags.erase r.tag
    batch.state := .loaded l } := by
  rw [State.endPass, final]
  rfl

theorem State.endPass_goesOn (final : finalPass cause r = false) : s.endPass l r cause oc = { s with
    delivery.batchRes := false
    delivery.records := s.delivery.records ++ [.pass r.tag r.pass false cause (oc.map (·.getD ⟨.notRun, []⟩))]
    batch.state := .running l { r with current := none, outcomes := oc } } := by
  rw [State.endPass, final]
  rfl

/-! ### Pass after pass (R123, R125, R128, R130) -/

theorem State.runPasses_succ (n : Nat) : s.runPasses (n + 1) l r =
    if (s.startPass l r).2 = true then (s.startPass l r).1.runPasses n l { r with pass := r.pass + 1 }
    else (s.startPass l r).1 := rfl

/-- A pass that leaves an item current, waits or is final is the last to start. -/
theorem State.runPasses_stops {t : State} {n : Nat} (starts : 1 ≤ n) (stops : s.startPass l r = (t, false)) :
    s.runPasses n l r = t := by
  obtain ⟨n, rfl⟩ := Nat.exists_eq_add_of_le' starts
  rw [State.runPasses_succ, stops]
  rfl

/-- Without a free entry the pass waits. -/
theorem State.startPass_waits (full : 128 ≤ s.delivery.occupancy) : s.startPass l r = ({ s with
    batch.state := .running l { r with waiting := true, current := none, outcomes := l.noOutcomes } }, false) := by
  have noRoom : ¬ s.delivery.hasRoom = true := by rw [Delivery.hasRoom_iff]; omega
  rw [State.startPass, if_neg noRoom]
  rfl

/-- With a free entry the pass takes it and its items follow. -/
theorem State.startPass_begins (room : s.delivery.occupancy < 128) : s.startPass l r =
    ({ s with delivery.batchRes := true } : State).holdProgress l { r with waiting := false, current := none }
      (passItems l.policy s.roster.entries l.items 1 l.noOutcomes) := by
  rw [State.startPass, if_pos (s.delivery.hasRoom_iff.mpr room)]
  rfl

section
variable {n : Nat} (starts : 1 ≤ n)
include starts

theorem State.runPasses_waits (full : 128 ≤ s.delivery.occupancy) : s.runPasses n l r = { s with
    batch.state := .running l { r with
      waiting := true, current := none, outcomes := List.replicate l.items.length none } } :=
  State.runPasses_stops starts (State.startPass_waits full)

/-- The first item to an available station becomes current. -/
theorem State.runPasses_pending (room : s.delivery.occupancy < 128) {before after : List TxnRequest}
    (items : l.items = before ++ it :: after) (gone : ∀ b ∈ before, Unreachable s.roster.entries b)
    (there : (s.entry it.station).state.unavailable = false) (goesOn : l.policy = .continue_ ∨ before = []) :
    s.runPasses n l r = { s with
      delivery.batchRes := true
      batch.state := .running l { r with
        waiting := false
        current := some ⟨before.length + 1, Attempt.fresh⟩
        outcomes := List.replicate before.length (some ⟨.stationUnavailable, []⟩) ++
          List.replicate (after.length + 1) none } } := by
  have blank : l.noOutcomes = List.replicate (before.length + (after.length + 1)) none := by
    rw [BatchList.noOutcomes, items, List.length_append, List.length_cons]
  refine State.runPasses_stops starts ?_
  rw [State.startPass_begins room, items, passItems_pending gone there goesOn 0, blank, unavailableFrom_blank,
    Nat.zero_add]
  rfl

/-- Under STOP a first item to an unavailable station ends the run. -/
theorem State.runPasses_failedStop (room : s.delivery.occupancy < 128) {rest : List TxnRequest}
    (policy : l.policy = .stop) (items : l.items = it :: rest) (gone : Unreachable s.roster.entries it) :
    s.runPasses n l r = { s with
      delivery.batchRes := false
      delivery.records := s.delivery.records ++ [.pass r.tag r.pass true .failedStop
        (⟨.stationUnavailable, []⟩ :: List.replicate rest.length ⟨.notRun, []⟩)]
      link.tags := s.link.tags.erase r.tag
      batch.state := .loaded l } := by
  have outcomes : (l.noOutcomes.set 0 (some ⟨.stationUnavailable, []⟩)).map (·.getD ⟨.notRun, []⟩) =
      ⟨.stationUnavailable, []⟩ :: List.replicate rest.length ⟨.notRun, []⟩ := by
    simp [BatchList.noOutcomes, items, List.replicate_succ]
  refine State.runPasses_stops starts ?_
  rw [State.startPass_begins room, policy, items, passItems_failedStop gone 0, State.holdProgress,
    State.endPass_closes rfl, outcomes]
  rfl

end

/-- The PASS record of the pass `i` passes on, if all its items go to unavailable stations. -/
def BatchRun.unavailablePass (l : BatchList) (r : BatchRun) (i : Nat) : DeliveryRecord :=
  .pass r.tag (r.pass + i) (decide (r.pass + i = r.passes)) .complete
    (List.replicate l.items.length ⟨.stationUnavailable, []⟩)

/-- A reservation that is not held is not given back. -/
theorem State.unreserved_eq (h : s.delivery.batchRes = false) : ({ s with delivery.batchRes := false } : State) = s := by
  rw [← h]

section
variable (unreserved : s.delivery.batchRes = false) (policy : l.policy = .continue_)
  (gone : ∀ it ∈ l.items, Unreachable s.roster.entries it)
include policy gone

/-- A pass whose items all go to unavailable stations ends COMPLETE as it starts. -/
theorem State.startPass_complete (room : s.delivery.occupancy < 128) : s.startPass l r =
    ({ s with delivery.batchRes := true } : State).holdProgress l { r with waiting := false, current := none }
      (.ended .complete (List.replicate l.items.length (some ⟨.stationUnavailable, []⟩))) := by
  have outcomes := unavailableFrom_blank l.items.length 0
  rw [Nat.add_zero, List.replicate_zero, List.append_nil] at outcomes
  rw [State.startPass_begins room, passItems_complete gone (.inl policy) 0, BatchList.noOutcomes, outcomes]

include unreserved

theorem State.startPass_last (room : s.delivery.occupancy < 128) (last : r.pass = r.passes) : s.startPass l r = ({ s with
    delivery.records := s.delivery.records ++ [r.unavailablePass l 0]
    link.tags := s.link.tags.erase r.tag
    batch.state := .loaded l }, false) := by
  have final : finalPass .complete { r with waiting := false, current := none } = true := decide_eq_true last.ge
  have number : decide (r.pass + 0 = r.passes) = true := decide_eq_true last
  rw [State.startPass_complete policy gone room, State.holdProgress, final, State.endPass_closes final,
    List.map_replicate, BatchRun.unavailablePass, number]
  conv_rhs => rw [← State.unreserved_eq unreserved]
  rfl

theorem State.startPass_next (room : s.delivery.occupancy < 128) (more : r.pass < r.passes) : ∃ b,
    s.startPass l r = ((s.onDelivery (Delivery.append (r.unavailablePass l 0))).setBatch b, true) := by
  have final : finalPass .complete { r with waiting := false, current := none } = false := decide_eq_false more.not_ge
  have number : decide (r.pass + 0 = r.passes) = false := decide_eq_false more.ne
  refine ⟨.running l { r with
    waiting := false, current := none, outcomes := List.replicate l.items.length (some ⟨.stationUnavailable, []⟩) }, ?_⟩
  rw [State.startPass_complete policy gone room, State.holdProgress, final, State.endPass_goesOn final,
    List.map_replicate, BatchRun.unavailablePass, number]
  conv_rhs => rw [← State.unreserved_eq unreserved]
  rfl

/-- Under CONTINUE with every station unavailable, pass after pass appends its record until the last one or until no
entry is free. -/
theorem State.runPasses_complete {n : Nat} (starts : 1 ≤ n) (last : r.pass + n = r.passes + 1) :
    s.runPasses n l r = { s with
      delivery.records := s.delivery.records ++ (List.range (min n (128 - s.delivery.occupancy))).map (r.unavailablePass l)
      link.tags := if n ≤ 128 - s.delivery.occupancy then s.link.tags.erase r.tag else s.link.tags
      batch.state := if n ≤ 128 - s.delivery.occupancy then .loaded l else .running l { r with
        pass := r.pass + (128 - s.delivery.occupancy), waiting := true, current := none
        outcomes := List.replicate l.items.length none } } := by
  induction n generalizing s r with
  | zero => omega
  | succ n ih =>
    by_cases full : 128 ≤ s.delivery.occupancy
    · have no_place : 128 - s.delivery.occupancy = 0 := by omega
      rw [State.runPasses_waits (Nat.le_add_left 1 n) full, no_place, Nat.min_zero, if_neg (Nat.not_succ_le_zero n),
        if_neg (Nat.not_succ_le_zero n), List.range_zero, List.map_nil, List.append_nil]
      rfl
    obtain ⟨places, free⟩ : ∃ p, 128 - s.delivery.occupancy = p + 1 := ⟨127 - s.delivery.occupancy, by omega⟩
    have room : s.delivery.occupancy < 128 := by omega
    rw [State.runPasses_succ, free, Nat.add_min_add_right, List.range_succ_eq_map, List.map_cons, List.map_map]
    simp only [Nat.add_le_add_iff_right]
    cases n with
    | zero =>
      rw [State.startPass_last unreserved policy gone room (by omega), if_neg Bool.false_ne_true, Nat.zero_min,
        if_pos (Nat.zero_le _), if_pos (Nat.zero_le _)]
      rfl
    | succ n =>
      obtain ⟨b, placed⟩ := State.startPass_next unreserved policy gone room (r := r) (by omega)
      have rest := ih (s := (s.onDelivery (Delivery.append (r.unavailablePass l 0))).setBatch b)
        (r := { r with pass := r.pass + 1 }) unreserved gone (Nat.le_add_left _ _) (by simp only; omega)
      have places_left : 128 - ((s.onDelivery (Delivery.append (r.unavailablePass l 0))).setBatch b).delivery.occupancy
          = places := by
        simp only [State.setBatch_delivery, State.onDelivery_delivery, Delivery.append_occupancy]
        omega
      have later : (r.unavailablePass l ∘ Nat.succ) = ({ r with pass := r.pass + 1 } : BatchRun).unavailablePass l := by
        funext i
        simp only [BatchRun.unavailablePass, Function.comp, Nat.succ_eq_add_one, Nat.add_right_comm, Nat.add_assoc]
      have number : r.pass + (places + 1) = r.pass + 1 + places := by omega
      rw [places_left] at rest
      rw [placed, if_pos rfl, later, number, ← List.singleton_append, ← List.append_assoc]
      exact rest

/-- The same, in terms of the number `m` of passes that start and of whether the last of them is the run's last. -/
theorem State.runPasses_count {n m : Nat} (starts : 1 ≤ n) (last : r.pass + n = r.passes + 1)
    (count : m = min n (128 - s.delivery.occupancy)) {final : Prop} [Decidable final] (ends : final ↔ m = n) :
    s.runPasses n l r = { s with
      delivery.records := s.delivery.records ++ (List.range m).map (r.unavailablePass l)
      link.tags := if final then s.link.tags.erase r.tag else s.link.tags
      batch.state := if final then .loaded l else .running l { r with
        pass := r.pass + m, waiting := true, current := none
        outcomes := List.replicate l.items.length none } } := by
  rw [State.runPasses_complete unreserved policy gone starts last, ← count]
  by_cases all : n ≤ 128 - s.delivery.occupancy
  · have final : final := ends.mpr (by omega)
    simp only [if_pos all, if_pos final]
  · have more : ¬ final := fun h => all (by have := ends.mp h; omega)
    have places : 128 - s.delivery.occupancy = m := by omega
    simp only [if_neg all, if_neg more]
    rw [places]

end

/-! ### A pass in progress goes on (R128, R130) -/

theorem State.continueRun_pending (i : Nat) : s.continueRun l r (.pendingItem i oc) = { s with
    batch.state := .running l { r with current := some ⟨i, Attempt.fresh⟩, outcomes := oc } } := rfl

theorem State.continueRun_closes (final : finalPass cause r = true) : s.continueRun l r (.ended cause oc) = { s with
    delivery.batchRes := false
    delivery.records := s.delivery.records ++ [.pass r.tag r.pass true cause (oc.map (·.getD ⟨.notRun, []⟩))]
    link.tags := s.link.tags.erase r.tag
    batch.state := .loaded l } := by
  rw [State.continueRun, State.holdProgress, final, State.endPass_closes final]
  rfl

/-- The next pass starts after the PASS record of the one that ended. -/
theorem State.continueRun_next (more : r.pass < r.passes) : s.continueRun l r (.ended .complete oc) =
    ({ s with
      delivery.batchRes := false
      delivery.records := s.delivery.records ++ [.pass r.tag r.pass false .complete (oc.map (·.getD ⟨.notRun, []⟩))]
      batch.state := .running l { r with current := none, outcomes := oc } } : State).runPasses (r.passes - r.pass) l
        { r with pass := r.pass + 1, waiting := false } := by
  have final : finalPass .complete r = false := decide_eq_false more.not_ge
  rw [State.continueRun, State.holdProgress, final, State.endPass_goesOn final]
  rfl

/-! ### The end of an item (R128) -/

/-- The end of an item clears no more than a marker. -/
theorem State.clearItem_of_item (item : l.item c.index = some it) : s.clearItem l c = { s with
    roster := if c.attempt.state = .queued then s.roster
      else (s.setEntry it.station { s.entry it.station with marker := none }).roster } := by
  by_cases pending : c.attempt.state = .queued
  · simp [State.clearItem, item, Attempt.wasIssued, pending]
  · simp [State.clearItem, item, Attempt.wasIssued, pending]
    rfl

theorem State.clearItem_entry_state (s : State) (l : BatchList) (c : CurrentItem) (a : StAddr) :
    ((s.clearItem l c).entry a).state = (s.entry a).state := by
  rw [State.clearItem_entry]
  split <;> rfl

section
variable {entries : Table StationEntry 30} {i : Nat} {x : TxnOutcome} (runs : ¬ (x = .trunkStopped ∨ x = .trunkHalted))
include runs

/-- While frames run, the abort-requested flag decides first, then the policy on a failure. -/
theorem afterItem_eq : afterItem l r entries i x oc =
    if r.abort = true then .ended .aborted oc
    else if x ≠ .done ∧ l.policy = .stop then .ended .failedStop oc
    else passItems l.policy entries (l.items.drop i) (i + 1) oc := by
  unfold afterItem
  split
  · exact absurd (.inl rfl) runs
  · exact absurd (.inr rfl) runs
  · rfl

theorem afterItem_aborted (abort : r.abort = true) : afterItem l r entries i x oc = .ended .aborted oc := by
  rw [afterItem_eq runs, if_pos abort]

theorem afterItem_failedStop (abort : r.abort = false) (failed : x ≠ .done) (policy : l.policy = .stop) :
    afterItem l r entries i x oc = .ended .failedStop oc := by
  rw [afterItem_eq runs, if_neg (ne_true_of_eq_false abort), if_pos ⟨failed, policy⟩]

theorem afterItem_goesOn (abort : r.abort = false) (passes : x = .done ∨ l.policy = .continue_) :
    afterItem l r entries i x oc = passItems l.policy entries (l.items.drop i) (i + 1) oc := by
  have no_stop : ¬ (x ≠ .done ∧ l.policy = .stop) := by
    rintro ⟨failed, policy⟩
    rcases passes with done | continues
    · exact failed done
    · cases policy.symm.trans continues
  rw [afterItem_eq runs, if_neg (ne_true_of_eq_false abort), if_neg no_stop]

end

/-- Settles O49: the item is cleared, then frames, the abort-requested flag, the policy and the stations decide. -/
theorem batchItemEnds : Obligations.BatchItemEnds := by
  intro l r c it o s item reserved outcomes cleared ended closing stopped goesOn left passed
  have item_cleared : s.clearItem l c = cleared := State.clearItem_of_item item
  have unreachable : ∀ a, ((cleared.entry a).state.unavailable = (s.entry a).state.unavailable) := fun a => by
    rw [← item_cleared, State.clearItem_entry_state]
  have gone {items : List TxnRequest} (h : ∀ b ∈ items, (s.entry b.station).state.unavailable = true) :
      ∀ b ∈ items, Unreachable cleared.roster.entries b := fun b hb => (unreachable b.station).trans (h b hb)
  have continues : s.endItem l r c o = cleared.continueRun l r
      (afterItem l r cleared.roster.entries c.index o.outcome outcomes) := by
    rw [State.endItem_eq, item_cleared]
  have closes {cause : EndCause} {oc : List (Option ItemOutcome)} (final : finalPass cause r = true)
      (after : afterItem l r cleared.roster.entries c.index o.outcome outcomes = .ended cause oc) :
      s.endItem l r c o = closing cause oc := by
    rw [continues, after, State.continueRun_closes final]
  refine ⟨fun h => ?stopped, fun h => ?halted, fun runs abort => ?aborted, fun runs abort failed policy => ?failed,
    ?pending, ?unavailable, fun gone_left ⟨runs, abort, passes⟩ ended_by => ⟨fun last => ?last, fun more => ?next⟩⟩
  case stopped => exact closes rfl (by rw [h]; rfl)
  case halted => exact closes rfl (by rw [h]; rfl)
  case aborted => exact closes rfl (afterItem_aborted runs abort)
  case failed => exact closes rfl (afterItem_failedStop runs abort failed policy)
  case pending =>
    rintro ⟨runs, abort, passes⟩ before next after drop gone_before there ended_by
    rw [continues, afterItem_goesOn runs abort passes, drop,
      passItems_pending (gone gone_before) ((unreachable _).trans there) ended_by, State.continueRun_pending]
    rfl
  case unavailable =>
    rintro ⟨runs, abort, passes⟩ policy next after drop gone_next
    refine closes rfl ?_
    rw [afterItem_goesOn runs abort passes, drop, policy]
    exact passItems_failedStop ((unreachable _).trans gone_next) _
  case last =>
    refine closes (decide_eq_true last) ?_
    rw [afterItem_goesOn runs abort passes]
    exact passItems_complete (gone gone_left) ended_by _
  case next =>
    have starts : 1 ≤ r.passes - r.pass := Nat.sub_pos_of_lt more
    intro blank done
    have next_pass : s.endItem l r c o =
        ({ done with batch.state := .running l { r with current := none, outcomes := passed } } : State).runPasses
          (r.passes - r.pass) l { r with pass := r.pass + 1, waiting := false } := by
      rw [continues, afterItem_goesOn runs abort passes, passItems_complete (gone gone_left) ended_by,
        State.continueRun_next more]
      rfl
    have occupancy : done.delivery.occupancy = s.delivery.occupancy :=
      s.delivery.appendPass_occupancy _ _ _ _ _ reserved
    rw [next_pass]
    refine ⟨fun full => ?waits, fun room before first after items gone_before there ended_by => ?begins,
      fun room policy first rest items gone_first => ?stops, fun policy gone_all => ?completes⟩
    case waits => exact State.runPasses_waits starts (occupancy.symm ▸ full)
    case begins =>
      exact State.runPasses_pending starts (occupancy.symm ▸ room) items (gone gone_before)
        ((unreachable _).trans there) ended_by
    case stops =>
      exact State.runPasses_failedStop starts (occupancy.symm ▸ room) policy items ((unreachable _).trans gone_first)
    case completes =>
      intro m final
      have count : m = min (r.passes - r.pass) (128 - done.delivery.occupancy) := by rw [occupancy]
      have last : r.pass + 1 + (r.passes - r.pass) = r.passes + 1 := by omega
      have ends : final = true ↔ m = r.passes - r.pass := decide_eq_true_iff.trans (by omega)
      rw [Nat.add_right_comm r.pass m]
      refine State.runPasses_count rfl policy ?_ starts ?_ ?_ ends
      · exact gone gone_all
      · exact last
      · exact count

end Sys2Proof.Machine
end

section
/-! The starts of batch passes: a free place for a pass that waits, and BATCH_RUN (R120, R122, R123, R128, R130, R132). -/

namespace Sys2Proof.Machine

variable {s : State} {l : BatchList} {r : BatchRun} {tag k : Byte}

/-! ### Room for a pass that waits (R123, R132, R144) -/

theorem State.takeRoom_decided (running : s.batch.state = .running l r) {cause : EndCause}
    (decided : r.decided = some cause) :
    s.takeRoom = ({ s with delivery.batchRes := true } : State).endPass l r cause l.noOutcomes := by
  simp only [State.takeRoom, running, decided]
  rfl

theorem State.takeRoom_begins (running : s.batch.state = .running l r) (undecided : r.decided = none) :
    s.takeRoom = s.runPasses (r.passes - r.pass + 1) l { r with waiting := false } := by
  simp only [State.takeRoom, running, undecided]

theorem finalPass_of_ne {cause : EndCause} (h : cause ≠ .complete) : finalPass cause r = true := by
  rw [finalPass, bne_iff_ne.mpr h, Bool.true_or]

/-- Settles O50: the decided end stands in the free place, or the pass begins there. -/
theorem batchRoomTaken : Obligations.BatchRoomTaken := by
  intro l r s released running waiting room closing
  have offered : s.roomOffered = true := by
    simp only [State.roomOffered, running, waiting, s.delivery.hasRoom_iff.mpr room, Bool.and_self]
  rw [exec_batchRoomOffer, onOwed_acts released offered]
  refine ⟨fun cause decided early => ?decided, fun undecided => ?begins, fun undecided policy it rest items gone => ?stops,
    fun undecided policy gone unreserved more => ?completes⟩
  case decided =>
    have outcomes : l.noOutcomes.map (·.getD ⟨.notRun, []⟩) = List.replicate l.items.length ⟨.notRun, []⟩ :=
      List.map_replicate
    rw [State.takeRoom_decided running decided, State.endPass_closes (finalPass_of_ne early), outcomes]
  case begins =>
    intro before it after items gone there ended_by
    rw [State.takeRoom_begins running undecided,
      State.runPasses_pending (Nat.le_add_left 1 _) room items gone there ended_by]
    rfl
  case stops =>
    rw [State.takeRoom_begins running undecided, State.runPasses_failedStop (Nat.le_add_left 1 _) room policy items gone]
  case completes =>
    intro m final
    have last : r.pass + (r.passes - r.pass + 1) = r.passes + 1 := by omega
    have ends : final = true ↔ m = r.passes - r.pass + 1 := decide_eq_true_iff.trans (by omega)
    rw [State.takeRoom_begins running undecided]
    exact congrArg _ (State.runPasses_count (r := { r with waiting := false }) unreserved policy gone (Nat.le_add_left 1 _)
      last rfl ends)

end Sys2Proof.Machine
end

section
/-! BATCH_RUN by its checks and its first passes (R120, R122, R123, R125, R128, R130). -/

namespace Sys2Proof.Machine

variable {s : State} {l : BatchList} {tag k : Byte}

/-! ### BATCH_RUN (R120, R122) -/

theorem byte_toNat_eq_zero_iff : k.toNat = 0 ↔ k = 0 := by bv_omega

theorem countFails_iff {preset : Nat} : countFails preset k.toNat = true ↔ 127 < k.toNat ∨ k = 0 ∧ preset = 0 := by
  simp only [countFails, Bool.or_eq_true, decide_eq_true_eq, Bool.and_eq_true, beq_iff_eq, byte_toNat_eq_zero_iff]

theorem passCount_eq (preset : Nat) (k : Byte) : passCount preset k.toNat = if k = 0 then preset else k.toNat := by
  simp only [passCount, byte_toNat_eq_zero_iff]

theorem exec_batchRun_taken (hs : s.Takes) : exec (.batchRun tag [k]) s =
    .next ((ownBatchRun tag [k] s).1.pushReply tag (ownBatchRun tag [k] s).2) := by
  rw [exec_batchRun, show fixedLength 1 [k] = true from rfl, takeRequest_taken hs]

theorem exec_batchRun_legal (hs : s.Takes) (legal : ¬ (127 < k.toNat ∨ k = 0 ∧ s.batch.preset = 0)) :
    exec (.batchRun tag [k]) s =
      .next ((batchRunByState tag k.toNat s).1.pushReply tag (batchRunByState tag k.toNat s).2) := by
  have field : firstFault [(1, countFails s.batch.preset (numAt [k] 0))] = none :=
    firstFault_eq_none (List.forall_mem_singleton.mpr (Bool.eq_false_iff.mpr (mt countFails_iff.mp legal)))
  rw [exec_batchRun_taken hs, ownBatchRun, field]
  rfl

/-- The run record with which a run starts (R122). -/
def BatchRun.starting (l : BatchList) (tag : Byte) (count : Nat) : BatchRun :=
  ⟨tag, count, 1, none, false, false, none, List.replicate l.items.length none⟩

/-- An accepted run: the preset is consumed by a count of 0, the tag is held, and pass 1 starts. -/
theorem State.acceptRun_eq (s : State) : s.acceptRun l tag k.toNat =
    ({ s with batch.preset := if k = 0 then 0 else s.batch.preset, link.tags := s.link.tags ++ [tag] } : State).runPasses
      (if k = 0 then s.batch.preset else k.toNat) l
      (BatchRun.starting l tag (if k = 0 then s.batch.preset else k.toNat)) := by
  rw [State.acceptRun, passCount_eq]
  simp only [byte_toNat_eq_zero_iff]
  rfl

/-- Without a list loaded, or with the trunk not RUNNING, no run starts. -/
theorem batchRunByState_wrongState (n : Nat) (h : (∀ l, s.batch.state ≠ .loaded l) ∨ s.port.trunk ≠ .running) :
    batchRunByState tag n s = (s, .refuse .wrongState) := by
  unfold batchRunByState
  split
  · rfl
  · rfl
  · next l loaded => rw [if_pos (h.resolve_left fun none_loaded => none_loaded l loaded)]

theorem batchRunByState_loaded (n : Nat) (loaded : s.batch.state = .loaded l) (trunk : s.port.trunk = .running) :
    batchRunByState tag n s = if tag ∈ s.link.tags then (s, .refuse .tagBusy)
      else (s.acceptRun l tag n, .accepted (passCount s.batch.preset n)) := by
  simp only [batchRunByState, loaded, trunk, State.tagHeld_iff]
  rfl

/-- Settles O47: the checks in their order, then what pass 1 comes to. -/
theorem batchRunStartsPassOne : Obligations.BatchRunStartsPassOne := by
  intro tag k s hs
  refine ⟨fun illegal => ?field, fun legal => ⟨fun wrong => ?wrongState, fun l loaded trunk => ⟨fun held => ?tagBusy,
    fun free => ?accepted⟩⟩⟩
  case field =>
    rw [exec_batchRun_taken hs, ownBatchRun, firstFault, show numAt [k] 0 = k.toNat from rfl, countFails_iff.mpr illegal]
    rfl
  case wrongState =>
    rw [exec_batchRun_legal hs legal, batchRunByState_wrongState _ wrong]
    rfl
  case tagBusy =>
    rw [exec_batchRun_legal hs legal, batchRunByState_loaded _ loaded trunk, if_pos held]
    rfl
  case accepted =>
    intro count blank run taken
    have accepted : exec (.batchRun tag [k]) s = .next ((taken.runPasses count l run).replied tag .accepted count []) := by
      rw [exec_batchRun_legal hs legal, batchRunByState_loaded _ loaded trunk, if_neg free, State.acceptRun_eq,
        passCount_eq]
      rfl
    have starts : 1 ≤ count := by
      by_cases zero : k = 0
      · rw [show count = s.batch.preset from if_pos zero]
        exact Nat.pos_of_ne_zero fun none_set => legal (.inr ⟨zero, none_set⟩)
      · rw [show count = k.toNat from if_neg zero]
        exact Nat.pos_of_ne_zero (mt byte_toNat_eq_zero_iff.mp zero)
    have released : taken.link.tags.erase tag = s.link.tags := by
      rw [List.erase_append_right _ free, List.erase_cons_head, List.append_nil]
    rw [accepted]
    refine ⟨fun full => ?waits, fun room before it after items gone there ended_by => ?begins,
      fun room policy it rest items gone => ?stops, fun acc policy gone => ?completes⟩
    case waits =>
      rw [State.runPasses_waits (s := taken) starts full]
    case begins =>
      rw [State.runPasses_pending (s := taken) starts room items gone there ended_by]
      rfl
    case stops =>
      rw [State.runPasses_failedStop (s := taken) starts room policy items gone, released, ← loaded]
    case completes =>
      intro n
      have unreserved : taken.delivery.batchRes = false := acc.batchRes.trans (by rw [loaded]; rfl)
      have records : run.unavailablePass l = fun i => .pass tag (i + 1) (i + 1 == count) .complete
          (List.replicate l.items.length ⟨.stationUnavailable, []⟩) := by
        funext i
        rw [BatchRun.unavailablePass, Nat.add_comm, beq_eq_decide]
      rw [State.runPasses_count (s := taken) unreserved policy gone starts (Nat.add_comm 1 count) rfl Iff.rfl, released,
        records, Nat.add_comm run.pass]

end Sys2Proof.Machine
end

section
/-! BATCH_ABORT by what the run is doing (R128 to R130). -/

namespace Sys2Proof.Machine

variable {s : State} {l : BatchList} {r : BatchRun} {c : CurrentItem} {it : TxnRequest} {tag : Byte}

theorem exec_batchAbort_taken (hs : s.Takes) : exec (.batchAbort tag []) s =
    .next ((ownBatchAbort s).1.pushReply tag (ownBatchAbort s).2) := by
  rw [exec_batchAbort, show fixedLength 0 [] = true from rfl, takeRequest_taken hs]

theorem exec_batchAbort_running (hs : s.Takes) (running : s.batch.state = .running l r) :
    exec (.batchAbort tag []) s = .next ((abortRun l r s).1.pushReply tag (abortRun l r s).2) := by
  have aborts : ownBatchAbort s = abortRun l r s := by simp only [ownBatchAbort, running]
  rw [exec_batchAbort_taken hs, aborts]

/-- A second abort changes nothing (R129). -/
theorem abortRun_again (h : r.abort = true ∨ r.waiting = true ∧ r.decided.isSome = true) :
    abortRun l r s = (s, .ok 1) := by
  rcases h with abort | ⟨waiting, decided⟩
  · rw [abortRun, if_pos abort]
  · obtain ⟨cause, decided⟩ := Option.isSome_iff_exists.mp decided
    simp only [abortRun, waiting, abortWaiting, decided, if_true, ite_self]

/-- The abort of a current item that is not ISSUED ends the run at once (R128, R130). -/
theorem State.endItem_aborting (item : l.item c.index = some it) (o : ItemOutcome)
    (runs : ¬ (o.outcome = .trunkStopped ∨ o.outcome = .trunkHalted)) :
    s.endItem l { r with abort := true } c o = { s with
      roster := if c.attempt.state = .queued then s.roster
        else (s.setEntry it.station { s.entry it.station with marker := none }).roster
      delivery.batchRes := false
      delivery.records := s.delivery.records ++ [.pass r.tag r.pass true .aborted
        ((r.outcomes.set (c.index - 1) (some o)).map (·.getD ⟨.notRun, []⟩))]
      link.tags := s.link.tags.erase r.tag
      batch.state := .loaded l } := by
  rw [State.endItem_eq, afterItem_aborted runs rfl, State.continueRun_closes rfl, State.clearItem_of_item item]

theorem abortRun_inPass (fresh : r.abort = false) (inPass : r.waiting = false) (current : r.current = some c) :
    abortRun l r s = abortItem l r c s := by
  simp only [abortRun, fresh, inPass, current]
  rfl

/-- A WAITING item ends ABORTED, a PENDING one NOT_RUN (R129). -/
theorem abortItem_unissued (unissued : c.attempt.state ≠ .issued) : abortItem l r c s =
    (s.endItem l { r with abort := true } c ⟨if c.attempt.state = .waiting then .aborted else .notRun, []⟩, .ok 0) := by
  unfold abortItem
  cases state : c.attempt.state with
  | issued => exact absurd state unissued
  | waiting => rfl
  | queued => rfl

/-- Settles O48: the abort-requested flag, the wait for room and the item's state decide in this order. -/
theorem batchAbortByItem : Obligations.BatchAbortByItem := by
  intro tag s hs
  refine ⟨fun no_run => ?wrongState, fun l r running => ⟨fun again => ?again, fun fresh waiting undecided => ?waiting,
    fun fresh inPass c current => ⟨fun issued => ?issued, fun unissued it item => ?unissued⟩⟩⟩
  case wrongState =>
    rw [exec_batchAbort_taken hs, ownBatchAbort]
    split
    · rfl
    · rfl
    · next l r running => exact absurd running (no_run l r)
  case again =>
    rw [exec_batchAbort_running hs running, abortRun_again again]
    rfl
  case waiting =>
    rw [exec_batchAbort_running hs running, abortRun, if_neg (ne_true_of_eq_false fresh), if_pos waiting, abortWaiting,
      undecided]
    rfl
  case issued =>
    rw [exec_batchAbort_running hs running, abortRun_inPass fresh inPass current, abortItem, issued]
    rfl
  case unissued =>
    intro last
    have runs : ¬ (last.outcome = .trunkStopped ∨ last.outcome = .trunkHalted) := by
      by_cases waiting : c.attempt.state = .waiting <;> simp [last, waiting]
    have in_progress : c.attempt.state = .queued ↔ ¬ c.attempt.state = .waiting := by
      cases state : c.attempt.state with
      | issued => exact absurd state unissued
      | waiting => decide
      | queued => decide
    rw [exec_batchAbort_running hs running, abortRun_inPass fresh inPass current,
      abortItem_unissued unissued, State.endItem_aborting item _ runs]
    simp only [in_progress, ite_not]
    rfl

end Sys2Proof.Machine
end

section
/-! BATCH_LOAD by its bytes, its fields and the batch state; BATCH_PRESET (R119 to R121, R167). -/

namespace Sys2Proof.Machine

variable {s : State} {l : BatchList} {tag k policy count : Byte} {items : List (List Byte)} {run : List Byte}

/-! ### The walk over the items (R119, R167) -/

/-- An item as the walk reads it from its bytes. -/
def RawItem.ofBytes (item : List Byte) : RawItem :=
  ⟨numAt item 0, numAt item 1, num2At item 2, numAt item 4, item.drop 5⟩

theorem walkItems_flatten (carries : ∀ item ∈ items, CarriesItem item) (rest : List Byte) :
    walkItems items.length (items.flatten ++ rest) = some (items.map RawItem.ofBytes, rest) := by
  induction items with
  | nil => rfl
  | cons item items ih =>
    obtain ⟨first, others⟩ := List.forall_mem_cons.mp carries
    obtain ⟨st, ac, hi, lo, n, data, rfl, length⟩ := first
    have enough : n.toNat ≤ (data ++ (items.flatten ++ rest)).length := by
      rw [List.length_append, length]
      exact Nat.le_add_right _ _
    rw [List.flatten_cons, List.append_assoc]
    simp only [List.length_cons, List.cons_append, walkItems]
    rw [if_pos enough, ← length, List.drop_left, List.take_left, ih others, List.map_cons]
    simp only [RawItem.ofBytes, numAt, num2At, byteAt, List.getD_cons_zero, List.getD_cons_succ, List.drop_succ_cons,
      List.drop_zero, length]

section
variable (carries : ∀ item ∈ items, CarriesItem item) (counted : items.length = count.toNat)
include carries counted

theorem batchWalk_eq : batchWalk (policy :: count :: (items.flatten ++ run)) = some (items.map RawItem.ofBytes, run) := by
  have walked := walkItems_flatten carries run
  rwa [counted] at walked

theorem loadRawItems_eq : loadRawItems (policy :: count :: (items.flatten ++ run)) = items.map RawItem.ofBytes := by
  rw [loadRawItems, batchWalk_eq carries counted]

theorem loadRunCount_eq : loadRunCount (policy :: count :: (items.flatten ++ run)) = run.head?.map BitVec.toNat := by
  rw [loadRunCount, batchWalk_eq carries counted]
  cases run <;> rfl

theorem batchLoadLength_eq_true (one : run.length ≤ 1) (short : 2 + (items.flatten ++ run).length ≤ 252) :
    batchLoadLength (policy :: count :: (items.flatten ++ run)) = true := by
  have fits : payloadFits (policy :: count :: (items.flatten ++ run)) = true :=
    decide_eq_true (by simp only [List.length_cons]; exact (Nat.add_comm _ 2).trans_le short)
  rw [batchLoadLength, batchWalk_eq carries counted, fits]
  simpa using one

end

/-! ### The fields of BATCH_LOAD (R119, R167) -/

theorem firstFault_append (a b : List (Nat × Bool)) : firstFault (a ++ b) = (firstFault a).or (firstFault b) := by
  induction a with
  | nil => rfl
  | cons f rest ih =>
    rw [List.cons_append, firstFault, firstFault]
    split
    · rfl
    · exact ih

/-- The fields from their tests in their order, the first of them numbered `n`. -/
def fieldsFrom (n : Nat) (tests : List Bool) : List (Nat × Bool) := (tests.zipIdx n).map fun x => (x.2, !x.1)

theorem fieldsFrom_append (n : Nat) (a b : List Bool) :
    fieldsFrom n (a ++ b) = fieldsFrom n a ++ fieldsFrom (n + a.length) b := by
  rw [fieldsFrom, List.zipIdx_append, List.map_append]
  rfl

theorem fieldsFrom_true {n : Nat} {tests : List Bool} (h : ∀ t ∈ tests, t = true) :
    firstFault (fieldsFrom n tests) = none := by
  refine firstFault_eq_none fun f hf => ?_
  obtain ⟨⟨t, i⟩, mem, rfl⟩ := List.mem_map.mp hf
  rw [h t (List.fst_mem_of_mem_zipIdx mem)]
  rfl

/-- An item's fields and their tests: its data field never fails. -/
theorem fieldsFrom_itemTests (n : Nat) (item : List Byte) : fieldsFrom (5 * n + 3) (itemTests item) =
    itemFaults (n + 1) (RawItem.ofBytes item) ++ [(5 * n + 7, false)] := by
  have action : (actionOf (numAt item 1)).isNone =
      !decide (byteAt item 1 = 1 ∨ byteAt item 1 = 2 ∨ byteAt item 1 = 3) := by
    rw [eq_not_decide_iff, ← Bool.not_eq_true, numAt, actionOf_isNone_iff]
    tauto
  have object : decide (4095 < num2At item 2) = !decide (num2At item 2 ≤ 4095) := by
    rw [← decide_not, decide_eq_decide, not_le]
  have length : lengthFits (numAt item 1) (numAt item 4) =
      decide (if byteAt item 1 = 1 then numAt item 4 = 0 else 1 ≤ numAt item 4 ∧ numAt item 4 ≤ 4) := by
    have fetch : numAt item 1 = 1 ↔ byteAt item 1 = 1 := by unfold numAt; bv_omega
    rw [lengthFits, beq_eq_decide]
    simp only [fetch]
    split <;> rfl
  rw [itemFaults, RawItem.ofBytes]
  simp only [action, object, length]
  rfl

theorem firstFault_itemsFaults (n : Nat) (items : List (List Byte)) :
    firstFault (itemsFaults (n + 1) (items.map RawItem.ofBytes)) =
      firstFault (fieldsFrom (5 * n + 3) (items.flatMap itemTests)) := by
  induction items generalizing n with
  | nil => rfl
  | cons item rest ih =>
    have data_field : firstFault [(5 * n + 7, false)] = none := rfl
    have next : 5 * n + 3 + (itemTests item).length = 5 * (n + 1) + 3 := by
      rw [show (itemTests item).length = 5 from rfl]
      omega
    rw [List.map_cons, itemsFaults, List.flatMap_cons, fieldsFrom_append, next, fieldsFrom_itemTests,
      firstFault_append, firstFault_append, firstFault_append, data_field, Option.or_none, ih]

/-- The tests of BATCH_LOAD's fields in their order (R119, R167). -/
def loadTests (preset : Nat) (policy count : Byte) (items : List (List Byte)) (run : List Byte) : List Bool :=
  decide (policy = 0 ∨ policy = 1) :: decide (1 ≤ count.toNat ∧ count.toNat ≤ 15) ::
    (items.flatMap itemTests ++ run.map fun n => decide (n.toNat ≤ 127 ∧ (n = 0 → preset ≠ 0)))

theorem loadTests_append (preset : Nat) : loadTests preset policy count items run = loadTests preset policy count items [] ++
    run.map fun n => decide (n.toNat ≤ 127 ∧ (n = 0 → preset ≠ 0)) := by
  simp [loadTests]

theorem length_flatMap_itemTests (items : List (List Byte)) : (items.flatMap itemTests).length = 5 * items.length := by
  rw [List.length_flatMap]
  simp [itemTests, Nat.mul_comm]

theorem length_loadTests (preset : Nat) : (loadTests preset policy count items []).length = 5 * items.length + 2 := by
  rw [loadTests, List.map_nil, List.append_nil, List.length_cons, List.length_cons, length_flatMap_itemTests]

theorem countFails_eq (preset : Nat) (k : Byte) :
    countFails preset k.toNat = !decide (k.toNat ≤ 127 ∧ (k = 0 → preset ≠ 0)) := by
  rw [eq_not_decide_iff, ← Bool.not_eq_true, countFails_iff, not_or, not_lt, not_and]

/-- The first field that fails, in the words of R119 and R167. -/
theorem batchLoadFault_eq (preset : Nat) (carries : ∀ item ∈ items, CarriesItem item)
    (counted : items.length = count.toNat) (one : run.length ≤ 1) :
    batchLoadFault preset (policy :: count :: (items.flatten ++ run)) =
      firstFault (fieldsFrom 1 (loadTests preset policy count items run)) := by
  have policy_test : decide (1 < policy.toNat) = !decide (policy = 0 ∨ policy = 1) := by
    rw [← decide_not, decide_eq_decide]
    bv_omega
  have count_test : decide (count.toNat = 0 ∨ 15 < count.toNat) = !decide (1 ≤ count.toNat ∧ count.toNat ≤ 15) := by
    rw [← decide_not, decide_eq_decide]
    omega
  have in_order : fieldsFrom 1 (loadTests preset policy count items run) =
      [(1, decide (1 < policy.toNat)), (2, decide (count.toNat = 0 ∨ 15 < count.toNat))] ++
        (fieldsFrom 3 (items.flatMap itemTests) ++ fieldsFrom (3 + (items.flatMap itemTests).length)
          (run.map fun n => decide (n.toNat ≤ 127 ∧ (n = 0 → preset ≠ 0)))) := by
    rw [policy_test, count_test, ← fieldsFrom_append]
    rfl
  have run_number : 3 + (items.flatMap itemTests).length = 5 * count.toNat + 3 := by
    rw [length_flatMap_itemTests, counted, Nat.add_comm]
  rw [in_order, run_number, batchLoadFault, loadRawItems_eq carries counted, loadRunCount_eq carries counted,
    List.append_assoc, firstFault_append, firstFault_append, firstFault_append, firstFault_append,
    firstFault_itemsFaults 0]
  congr 2
  cases run with
  | nil => rfl
  | cons k rest =>
    obtain rfl : rest = [] := List.length_eq_zero_iff.mp (Nat.le_zero.mp (Nat.le_of_succ_le_succ one))
    exact congrArg (fun fails => firstFault [(5 * count.toNat + 3, fails)]) (countFails_eq preset k)

/-! ### The bytes of a list (R119, R167) -/

theorem Action.actionOf_code (a : Action) : actionOf a.code.toNat = some a := by cases a <;> rfl

theorem TxnRequest.object_bytes (r : TxnRequest) : num2At r.bytes 2 = r.object.toNat := by
  change ((r.object.setWidth 16).extractLsb' 8 8).toNat * 256 + ((r.object.setWidth 16).extractLsb' 0 8).toNat = _
  simp only [BitVec.extractLsb'_toNat, BitVec.toNat_setWidth, Nat.shiftRight_eq_div_pow]
  omega

/-- An item's bytes read back (R119). -/
theorem TxnRequest.request_ofBytes (r : TxnRequest) : (RawItem.ofBytes r.bytes).request = r := by
  have station : stationOf (numAt r.bytes 0) = r.station := stationOf_addrByte r.station
  have action : actionOf (numAt r.bytes 1) = some r.action := r.action.actionOf_code
  have data : r.bytes.drop 5 = r.data := rfl
  simp only [RawItem.ofBytes, RawItem.request, station, action, data, r.object_bytes, 
    BitVec.ofNat_toNat, BitVec.setWidth_eq]
  rfl

section
variable {r : TxnRequest} (legal : r.Legal)
include legal

theorem TxnRequest.Legal.length_le : r.data.length ≤ 4 := by
  unfold TxnRequest.Legal at legal
  split at legal
  · rw [legal]; decide
  · exact legal.2
  · exact legal.2

theorem TxnRequest.Legal.length_byte : (BitVec.ofNat 8 r.data.length).toNat = r.data.length := by
  have small := legal.length_le
  rw [BitVec.toNat_ofNat]
  omega

theorem TxnRequest.Legal.carries : CarriesItem r.bytes :=
  ⟨_, _, _, _, _, r.data, rfl, legal.length_byte.symm⟩

theorem TxnRequest.Legal.bytes_length_le : r.bytes.length ≤ 9 := Nat.add_le_add_right legal.length_le 5

theorem TxnRequest.Legal.itemTests_true : ∀ t ∈ itemTests r.bytes, t = true := by
  have station : (r.bytes.getD 0 0).toNat = r.station.val + 1 := addrByte_toNat r.station
  have object : (r.bytes.getD 2 0).toNat * 256 + (r.bytes.getD 3 0).toNat = r.object.toNat := r.object_bytes
  have length : (r.bytes.getD 4 0).toNat = r.data.length := legal.length_byte
  have action : r.bytes.getD 1 0 = r.action.code := rfl
  simp only [itemTests, List.forall_mem_cons, decide_eq_true_eq, station, object, length, action]
  refine ⟨⟨Nat.le_add_left _ _, r.station.isLt⟩, ?action, ?object, ?length, trivial, fun _ h => nomatch h⟩
  case action => cases r.action <;> decide
  case object => exact Nat.le_of_lt_succ r.object.isLt
  case length =>
    unfold TxnRequest.Legal at legal
    cases kind : r.action with
    | fetch =>
      rw [kind] at legal
      rw [if_pos (show Action.fetch.code = 1 from rfl), legal]
      rfl
    | store =>
      rw [kind] at legal
      rwa [if_neg (by decide)]
    | swap =>
      rw [kind] at legal
      rwa [if_neg (by decide)]

end

/-- The byte of a policy (R119). -/
def Policy.byte : Policy → Byte
  | .stop => 0
  | .continue_ => 1

theorem BatchList.payload_append (l : BatchList) (run : List Byte) : l.payload ++ run =
    l.policy.byte :: BitVec.ofNat 8 l.items.length :: ((l.items.map TxnRequest.bytes).flatten ++ run) := by
  unfold BatchList.payload
  cases l.policy <;> rfl

section
variable (legal : l.Legal)
include legal

theorem BatchList.Legal.counted : (l.items.map TxnRequest.bytes).length = (BitVec.ofNat 8 l.items.length).toNat := by
  obtain ⟨-, most, -⟩ := legal
  rw [List.length_map, BitVec.toNat_ofNat]
  omega

theorem BatchList.Legal.carries : ∀ item ∈ l.items.map TxnRequest.bytes, CarriesItem item := by
  obtain ⟨-, -, items⟩ := legal
  exact List.forall_mem_map.mpr fun r hr => (items r hr).carries

/-- Fifteen items of nine bytes leave room in a frame for a run count (R152). -/
theorem BatchList.Legal.short (one : run.length ≤ 1) :
    2 + ((l.items.map TxnRequest.bytes).flatten ++ run).length ≤ 252 := by
  obtain ⟨-, most, items⟩ := legal
  have bytes : ((l.items.map TxnRequest.bytes).map List.length).sum ≤ l.items.length * 9 := by
    have each : ∀ n ∈ (l.items.map TxnRequest.bytes).map List.length, n ≤ 9 := by
      simp only [List.forall_mem_map]
      exact fun r hr => (items r hr).bytes_length_le
    simpa using List.sum_le_card_nsmul _ 9 each
  rw [List.length_append, List.length_flatten]
  omega

theorem BatchList.Legal.loadList_eq : loadList (l.payload ++ run) = l := by
  have items : (loadRawItems (l.payload ++ run)).map RawItem.request = l.items := by
    rw [BatchList.payload_append, loadRawItems_eq legal.carries legal.counted, List.map_map, List.map_map]
    exact (List.map_congr_left fun r _ => r.request_ofBytes).trans (List.map_id _)
  have policy : (if numAt (l.payload ++ run) 0 = 0 then Policy.stop else .continue_) = l.policy := by
    rw [BatchList.payload_append]
    cases l.policy <;> rfl
  rw [loadList, items, policy]

/-- The fields before the run count of a legal list do not fail. -/
theorem BatchList.Legal.tests (preset : Nat) : ∀ t ∈ loadTests preset l.policy.byte (BitVec.ofNat 8 l.items.length)
    (l.items.map TxnRequest.bytes) [], t = true := by
  obtain ⟨least, most, items⟩ := legal
  have counted : (BitVec.ofNat 8 l.items.length).toNat = l.items.length := by
    rw [BitVec.toNat_ofNat]
    omega
  have fields : ∀ t ∈ (l.items.map TxnRequest.bytes).flatMap itemTests, t = true := by
    intro t ht
    obtain ⟨item, hitem, test⟩ := List.mem_flatMap.mp ht
    obtain ⟨r, hr, rfl⟩ := List.mem_map.mp hitem
    exact (items r hr).itemTests_true t test
  rw [loadTests, List.map_nil, List.append_nil, List.forall_mem_cons, List.forall_mem_cons, counted]
  refine ⟨?_, decide_eq_true ⟨least, most⟩, fields⟩
  cases l.policy <;> rfl

end

/-! ### BATCH_LOAD (R119, R120) -/

section
variable (hs : s.Takes)
include hs

theorem exec_batchLoad_taken (carries : ∀ item ∈ items, CarriesItem item) (counted : items.length = count.toNat)
    (one : run.length ≤ 1) (short : 2 + (items.flatten ++ run).length ≤ 252) :
    exec (.batchLoad tag (policy :: count :: (items.flatten ++ run))) s =
      .next ((ownBatchLoad tag (policy :: count :: (items.flatten ++ run)) s).1.pushReply tag
        (ownBatchLoad tag (policy :: count :: (items.flatten ++ run)) s).2) := by
  rw [exec_batchLoad, batchLoadLength_eq_true carries counted one short, takeRequest_taken hs]

/-- The first field that fails is named. -/
theorem exec_batchLoad_badField (carries : ∀ item ∈ items, CarriesItem item) (counted : items.length = count.toNat)
    (one : run.length ≤ 1) (short : 2 + (items.flatten ++ run).length ≤ 252) {n : Nat}
    (fails : (loadTests s.batch.preset policy count items run).findIdx? (· == false) = some n) :
    exec (.batchLoad tag (policy :: count :: (items.flatten ++ run))) s = .next (s.replied tag .badField (n + 1) []) := by
  rw [exec_batchLoad_taken hs carries counted one short, ownBatchLoad, batchLoadFault_eq _ carries counted one, fieldsFrom,
    firstFault_zipIdx fails, checkFields, State.pushReply_refuseWith]

/-- With every field legal the batch state decides. -/
theorem exec_batchLoad_legal (legal : l.Legal) (one : run.length ≤ 1)
    (counts : ∀ n ∈ run, ¬ (127 < n.toNat ∨ n = 0 ∧ s.batch.preset = 0)) :
    exec (.batchLoad tag (l.payload ++ run)) s =
      .next ((batchLoadByState tag l (run.head?.map BitVec.toNat) s).1.pushReply tag
        (batchLoadByState tag l (run.head?.map BitVec.toNat) s).2) := by
  have run_test : ∀ t ∈ run.map fun n => decide (n.toNat ≤ 127 ∧ (n = 0 → s.batch.preset ≠ 0)), t = true := by
    simp only [List.forall_mem_map, decide_eq_true_eq]
    intro n hn
    have := counts n hn
    rwa [not_or, not_lt, not_and] at this
  have no_fault : batchLoadFault s.batch.preset (l.payload ++ run) = none := by
    rw [l.payload_append, batchLoadFault_eq _ legal.carries legal.counted one, loadTests_append]
    exact fieldsFrom_true (List.forall_mem_append.mpr ⟨legal.tests _, run_test⟩)
  have loads : ownBatchLoad tag (l.payload ++ run) s = batchLoadByState tag l (run.head?.map BitVec.toNat) s := by
    rw [ownBatchLoad, no_fault, legal.loadList_eq, l.payload_append, loadRunCount_eq legal.carries legal.counted]
    rfl
  rw [← loads, l.payload_append, exec_batchLoad_taken hs legal.carries legal.counted one (legal.short one)]

end

theorem batchLoadByState_idle (n : Nat) (idle : ∀ l' r, s.batch.state ≠ .running l' r) :
    batchLoadByState tag l (some n) s = loadAndRun tag l n s := by
  unfold batchLoadByState
  split
  · next l' r running => exact absurd running (idle l' r)
  · rfl
  · rfl

theorem batchLoadByState_running (n : Option Nat) {l' : BatchList} {r : BatchRun} (running : s.batch.state = .running l' r) :
    batchLoadByState tag l n s = (s, .refuse .busy) := by
  simp only [batchLoadByState, running]

/-- A legal list with a run count that fails: the count is the field after the five of each item. -/
theorem exec_batchLoad_badCount (hs : s.Takes) (legal : l.Legal) (fails : 127 < k.toNat ∨ k = 0 ∧ s.batch.preset = 0) :
    exec (.batchLoad tag (l.payload ++ [k])) s = .next (s.replied tag .badField (5 * l.items.length + 3) []) := by
  have count_test : (decide (k.toNat ≤ 127 ∧ (k = 0 → s.batch.preset ≠ 0)) == false) = true := by
    rw [beq_iff_eq, decide_eq_false_iff_not, ← not_lt, ← not_and, ← not_or]
    exact not_not.mpr fails
  have others : (loadTests s.batch.preset l.policy.byte (BitVec.ofNat 8 l.items.length) (l.items.map TxnRequest.bytes)
      []).findIdx? (· == false) = none :=
    List.findIdx?_eq_none_iff.mpr fun t ht => by rw [legal.tests _ t ht]; rfl
  rw [l.payload_append]
  refine exec_batchLoad_badField hs legal.carries legal.counted (Nat.le_refl _) (legal.short (Nat.le_refl _)) ?_
  rw [loadTests_append, List.findIdx?_append, others, length_loadTests, List.length_map, List.map_singleton,
    List.findIdx?_cons, if_pos count_test]
  exact congrArg some (Nat.zero_add _)

/-- A legal list with a legal run count in a state with no run: the load and the run are one step (R120). -/
theorem exec_batchLoad_idle (hs : s.Takes) (legal : l.Legal) (counts : ¬ (127 < k.toNat ∨ k = 0 ∧ s.batch.preset = 0))
    (idle : ∀ l' r, s.batch.state ≠ .running l' r) : exec (.batchLoad tag (l.payload ++ [k])) s =
      .next ((loadAndRun tag l k.toNat s).1.pushReply tag (loadAndRun tag l k.toNat s).2) := by
  rw [← batchLoadByState_idle _ idle]
  exact exec_batchLoad_legal hs legal (Nat.le_refl _) (List.forall_mem_singleton.mpr counts)

/-- Settles O46: the walk finds the items, the first field that fails is named, and with none the batch state decides. -/
theorem batchLoadAndPreset : Obligations.BatchLoadAndPreset := by
  refine ⟨fun tag l s hs legal => ?load, fun tag k l s hs legal => ⟨exec_batchLoad_badCount hs legal, fun counts =>
    ⟨fun ⟨l', r, running⟩ => ?busy, fun idle => ⟨fun trunk => ?wrongState, fun trunk held => ?tagBusy,
      fun trunk free taken => ?run⟩⟩⟩, fun tag policy count items run n s hs carries counted one short fails => ?field,
    fun tag n s hs => ?preset⟩
  case load =>
    have loads := exec_batchLoad_legal (tag := tag) (run := []) hs legal (Nat.zero_le _) (fun _ h => nomatch h)
    rw [List.append_nil] at loads
    rw [loads]
    unfold batchLoadByState
    cases s.batch.state <;> rfl
  case busy =>
    rw [exec_batchLoad_legal hs legal (Nat.le_refl _) (List.forall_mem_singleton.mpr counts),
      batchLoadByState_running _ running]
    rfl
  case wrongState =>
    rw [exec_batchLoad_idle hs legal counts idle, loadAndRun, if_pos trunk]
    rfl
  case tagBusy =>
    rw [exec_batchLoad_idle hs legal counts idle, loadAndRun, if_neg (not_not.mpr trunk),
      if_pos (State.tagHeld_iff.mpr held)]
    rfl
  case run =>
    rw [exec_batchLoad_idle hs legal counts idle, loadAndRun, if_neg (not_not.mpr trunk),
      if_neg (mt State.tagHeld_iff.mp free), exec_batchRun_legal taken counts,
      batchRunByState_loaded (s := { s with batch.state := .loaded l }) _ rfl trunk, if_neg free]
    rfl
  case field => exact exec_batchLoad_badField hs carries counted one short fails
  case preset =>
    have field : firstFault [(1, decide (127 < n.toNat))] = if 127 < n.toNat then some 1 else none := by
      by_cases large : 127 < n.toNat <;> simp [firstFault, large]
    rw [exec_batchPreset, show fixedLength 1 [n] = true from rfl, takeRequest_taken hs, ownBatchPreset,
      show numAt [n] 0 = n.toNat from rfl, field]
    split <;> rfl

end Sys2Proof.Machine
end

section
/-! Work inside the part, as the laws of the pool, of the delivery queue and of tags see it: the operations of which it
consists, and that the work on circuits, stations, transactions and batch items is nothing else. -/

namespace Sys2Proof.Machine

variable {s t u : State} {id : CircuitId} {c c₀ : LiveCircuit} {l : BatchList} {r : BatchRun}

/-! ### What work consists of -/

/-- `t` comes from `s` by work that leaves alone the delivery queue, the live circuits, the tags and the replies: work on the
port, the stations, the draft, on attempts, and on the host link but its two lists. -/
structure Aside (s t : State) : Prop where
  delivery : t.delivery = s.delivery
  live : t.sched.live = s.sched.live
  queue : t.engine.queue.map HostRecord.tag = s.engine.queue.map HostRecord.tag
  batchTags : t.batch.state.tags = s.batch.state.tags
  inPass : t.batch.state.inPass = s.batch.state.inPass
  shape : s.batch.state.shape → t.batch.state.shape
  tags : t.link.tags = s.link.tags
  replies : t.link.replies = s.link.replies

/-- `t` comes from `s` by work of circuits, which take buffers from the pool and give them back (R135, R136). -/
structure Exchange (s t : State) : Prop where
  delivery : t.delivery = { s.delivery with free := t.delivery.free }
  balance : t.delivery.free + t.circuitsHeld = s.delivery.free + s.circuitsHeld
  engine : t.engine = s.engine
  batch : t.batch = s.batch
  link : t.link = s.link

/-- Work inside the part: one operation after another, each begun where the rules allow it. -/
inductive Work : State → State → Prop
  | refl (s : State) : Work s s
  | trans {s t u : State} : Work s t → Work t u → Work s u
  | aside {s t : State} : Aside s t → Work s t
  | exchange {s t : State} : Exchange s t → Work s t
  | event (s : State) (e : EventRecord) : Work s (s.offerEvent e)
  /-- a unit of an IN circuit becomes a DATA record, with the buffers that the circuit lets go (R66, R140) -/
  | deliver {s : State} {id : CircuitId} {c₀ c : LiveCircuit} {bufs : List Buf} (h : s.circuit id = some c₀)
      (held : c₀.run.held = c.run.held + bufs.length) (room : s.delivery.belowHighMark = true) (f : FrameNo)
      (status : List SlotStatus) : Work s ((s.setCircuit id c).onDelivery (Delivery.append (.data id f status bufs)))
  /-- a TRANSACT is accepted (R98) -/
  | accept {s : State} {tag : Byte} (free : s.tagHeld tag = false) (few : s.engine.queue.length < Config.hostRecords)
      (room : s.delivery.hasRoom = true) (req : TxnRequest) : Work s (s.acceptTransaction tag req)
  /-- a record of the host queue completes (R108) -/
  | complete {s : State} {r : HostRecord} (queued : r ∈ s.engine.queue) (o : TxnOutcome) (reason : Byte)
      (data : List Byte) : Work s (s.completeHost r o reason data)
  /-- records of the host queue complete together, oldest first (R112, R114) -/
  | completeAll {s : State} {rs : List HostRecord} (queued : rs.Sublist s.engine.queue) (o : TxnOutcome) :
      Work s (s.completeAll o rs)
  /-- a batch run of at least one pass starts (R122) -/
  | accepted {s : State} {tag : Byte} (idle : ∀ l r, s.batch.state ≠ .running l r) (free : s.tagHeld tag = false)
      (l : BatchList) (k : Nat) (some_pass : 1 ≤ passCount s.batch.preset k) : Work s (s.acceptRun l tag k)
  /-- the current item ends, maybe as the abort-requested flag is set (R128, R129) -/
  | item {s : State} {l : BatchList} {r : BatchRun} {c : CurrentItem} (run : s.batch.state = .running l r)
      (current : r.current = some c) (abort : Bool) (o : ItemOutcome) : Work s (s.endItem l { r with abort := abort } c o)
  /-- a pass that waits takes a free place (R123, R132, R144) -/
  | room {s : State} (offered : s.roomOffered = true) : Work s s.takeRoom

namespace Aside

/-- Work that leaves the engine, the batch unit and the live circuits as they are. -/
theorem of_eq (delivery : t.delivery = s.delivery) (live : t.sched.live = s.sched.live)
    (queue : t.engine.queue = s.engine.queue) (batch : t.batch.state = s.batch.state) (tags : t.link.tags = s.link.tags)
    (replies : t.link.replies = s.link.replies) : Aside s t :=
  ⟨delivery, live, by rw [queue], by rw [batch], by rw [batch], fun h => by rwa [batch], tags, replies⟩

end Aside

namespace Work

theorem of_eq (delivery : t.delivery = s.delivery) (live : t.sched.live = s.sched.live)
    (queue : t.engine.queue = s.engine.queue) (batch : t.batch.state = s.batch.state) (tags : t.link.tags = s.link.tags)
    (replies : t.link.replies = s.link.replies) : Work s t :=
  .aside (.of_eq delivery live queue batch tags replies)

/-- Work that is carried out where it is owed. -/
theorem where_owed {owed : Bool} (h : owed = true → Work s t) : Work s (if owed then t else s) := by
  cases owed with
  | true => exact h rfl
  | false => exact .refl s

end Work

section
variable (s)

/-! ### Port, stations, draft, host link -/

theorem State.withPort_work (p : Port) : Work s (s.withPort p) := .of_eq rfl rfl rfl rfl rfl rfl

theorem State.withRoster_work (x : Roster) : Work s (s.withRoster x) := .of_eq rfl rfl rfl rfl rfl rfl

theorem State.setEntry_work (a : StAddr) (e : StationEntry) : Work s (s.setEntry a e) := s.withRoster_work _

theorem State.setTurn_work (turn : Turn) : Work s (s.setTurn turn) := .of_eq rfl rfl rfl rfl rfl rfl

theorem State.setDraft_work (d : Draft) : Work s (s.setDraft d) := .of_eq rfl rfl rfl rfl rfl rfl

theorem State.countStray_work (j : Judgement) : Work s (s.countStray j) := by
  cases j with
  | good _ => exact .of_eq rfl rfl rfl rfl rfl rfl
  | bad => exact .refl s
  | silent => exact .refl s

/-- The host link, with its replies and the tag table as they were. -/
theorem State.withLink_work {x : Link} (tags : x.tags = s.link.tags) (replies : x.replies = s.link.replies) :
    Work s (s.withLink x) :=
  .of_eq rfl rfl rfl rfl tags replies

theorem State.stationEvent_work (a : StAddr) (ev : StationEvent) (replaced : Bool) (i : Option Identity) :
    Work s (s.stationEvent a ev replaced i) := .event s _

/-! ### Attempts (R101 to R105, R126, R127) -/

/-- The records of the queue take new attempts. -/
theorem State.mapQueue_work (f : HostRecord → HostRecord) (tag : ∀ x, (f x).tag = x.tag) :
    Work s (s.withEngine { s.engine with queue := s.engine.queue.map f }) :=
  .aside ⟨rfl, rfl, (List.map_map).trans (List.map_congr_left fun x _ => tag x), rfl, rfl, fun h => h, rfl, rfl⟩

theorem State.setAttempt_work (tag : Byte) (x : Attempt) : Work s (s.setAttempt tag x) :=
  s.mapQueue_work _ fun _ => by split <;> rfl

/-- The current item takes a new attempt. -/
theorem State.setBatch_item_work {c d : CurrentItem} (run : s.batch.state = .running l r) (current : r.current = some c) :
    Work s (s.setBatch (.running l { r with current := some d })) := by
  refine .aside ⟨rfl, rfl, rfl, by rw [run]; rfl, by rw [run]; rfl, fun h => ?_, rfl, rfl⟩
  rw [run] at h
  obtain ⟨rests, passes, undecided⟩ := h
  exact ⟨fun waiting => (nomatch (rests waiting).symm.trans current), fun inPass => ⟨rfl, (passes inPass).2⟩, undecided⟩

/-- The abort-requested flag is set (R129). -/
theorem State.setBatch_abort_work (run : s.batch.state = .running l r) :
    Work s (s.setBatch (.running l { r with abort := true })) :=
  .aside ⟨rfl, rfl, rfl, by rw [run]; rfl, by rw [run]; rfl, fun h => by rw [run] at h; exact h, rfl, rfl⟩

/-- The end of a run that waits is decided (R129, R132). -/
theorem State.setBatch_decided_work {cause : EndCause} (run : s.batch.state = .running l r) (waiting : r.waiting = true)
    (ends : cause ≠ .complete) : Work s (s.setBatch (.running l { r with decided := some cause })) := by
  refine .aside ⟨rfl, rfl, rfl, by rw [run]; rfl, by rw [run]; rfl, fun h => ?_, rfl, rfl⟩
  rw [run] at h
  obtain ⟨rests, -, -⟩ := h
  exact ⟨rests, fun inPass => Bool.noConfusion (waiting.symm.trans inPass), fun same => ends (Option.some.inj same)⟩

theorem State.markHostDue_work : Work s s.markHostDue := s.mapQueue_work _ fun _ => rfl

theorem State.markBatchDue_work : Work s s.markBatchDue := by
  unfold State.markBatchDue
  split
  · exact .refl s
  · exact .refl s
  · next run =>
    split
    · exact .refl s
    · next current => exact s.setBatch_item_work run current

theorem State.runningFrameStart_work : Work s s.runningFrameStart :=
  ((s.withRoster_work _).trans (State.markHostDue_work _)).trans (State.markBatchDue_work _)

theorem State.issueRequest_work (user : PairUser) (m : Marker) (req : TxnRequest) (x : Attempt) :
    Work s (s.issueRequest user m req x) := by
  simp only [State.issueRequest]
  split
  · exact s.withPort_work _
  · exact .of_eq rfl rfl rfl rfl rfl rfl

/-! ### Circuits (R58, R61 to R67) -/

variable {s} in
/-- A circuit that holds as many buffers as before. -/
theorem State.setCircuit_work (h : s.circuit id = some c₀) (held : c.run.held = c₀.run.held) :
    Work s (s.setCircuit id c) := by
  have counted := s.circuitsHeld_setCircuit h c
  refine .exchange ⟨by rw [State.setCircuit_delivery], ?_, s.setCircuit_engine _ _, s.setCircuit_batch _ _,
    s.setCircuit_link _ _⟩
  rw [State.setCircuit_delivery]
  omega

variable {s} in
/-- A circuit that takes no more buffers than are free (R135). -/
theorem State.rehold_work (h : s.circuit id = some c₀) (room : c.run.held ≤ s.delivery.free + c₀.run.held) :
    Work s (s.rehold id c) :=
  .exchange ⟨by rw [State.rehold_eq, State.setCircuit_delivery]; rfl, s.rehold_balance h c room, s.rehold_engine _ _,
    s.rehold_batch _ _, s.rehold_link _ _⟩

variable {s} in
/-- A circuit that holds no more buffers than before. -/
theorem State.rehold_work_of_le (h : s.circuit id = some c₀) (fewer : c.run.held ≤ c₀.run.held) :
    Work s (s.rehold id c) :=
  State.rehold_work h (fewer.trans (Nat.le_add_left _ _))

theorem State.mapLive_work {f : LiveCircuit → LiveCircuit} (fewer : ∀ c, (f c).run.held ≤ c.run.held) :
    Work s (s.mapLive f) :=
  .exchange ⟨by simp only [State.mapLive, State.setLiveTable_delivery]; rfl, s.mapLive_balance f fewer, s.mapLive_engine f,
    s.mapLive_batch f, s.mapLive_link f⟩

theorem State.followStation_work (a : StAddr) : Work s (s.followStation a) := by
  refine s.mapLive_work fun c => ?_
  split
  · exact c.follow_held_le _
  · exact le_rfl

theorem State.raiseLoss_work (id : CircuitId) (cause : LossCause) : Work s (s.raiseLoss id cause) := by
  unfold State.raiseLoss
  split
  · exact .refl s
  · next c h =>
    split
    · exact .refl s
    · have flagged : Work s (s.setCircuit id { c with run := { c.run with lossReported := true } }) :=
        State.setCircuit_work h rfl
      exact flagged.trans (.event _ _)

section
variable {s} (h : s.circuit id = some c)
include h

/-- A unit goes from the queue to the line, or a HOLD unit takes no buffer (R58, R134). -/
theorem State.beginOut_work : Work s (s.beginOut id c) := by
  unfold State.beginOut
  split
  · next u rest queued =>
    refine State.rehold_work_of_le h ?_
    simp only [CircuitRun.held, CircuitRun.queueHeld, queued, List.map_cons, List.sum_cons, Option.map_some,
      Option.getD_some, Flight.held]
    omega
  · refine .trans (State.rehold_work_of_le h ?_) (State.raiseLoss_work _ _ _)
    simp only [CircuitRun.held, CircuitRun.queueHeld, Option.map_some, Option.getD_some, Flight.held]
    omega

/-- An assembly claims its buffers where they are free (R62, R135). -/
theorem State.beginIn_work : Work s (s.beginIn id c) := by
  simp only [State.beginIn]
  split
  · next granted =>
    have free : c.defn.width ≤ s.delivery.free := (Delivery.inboundClaim_iff _ _).mp granted
    refine State.rehold_work h ?_
    simp only [CircuitRun.held, CircuitRun.queueHeld, Option.map_some, Option.getD_some, Assembly.held,
      List.length_replicate]
    omega
  · refine .trans (State.rehold_work_of_le h ?_) (State.raiseLoss_work _ _ _)
    simp only [CircuitRun.held, CircuitRun.queueHeld, CircuitRun.dropIf, Option.map_some, Option.getD_some, Assembly.held]
    omega

/-- The buffers of a unit's assembly go with its DATA record, or back to the pool (R65, R66). -/
theorem State.decideDelivery_work {a : Assembly} {bufs : List Buf} (assembly : c.run.assembly = some a)
    (claimed : a.bufs = some bufs) (status : List SlotStatus) : Work s (s.decideDelivery id c status bufs) := by
  have held : ∀ run : CircuitRun, run.queue = c.run.queue → run.flight = c.run.flight → run.assembly = none →
      c.run.held = run.held + bufs.length := fun run queue flight none => by
    simp only [CircuitRun.held, CircuitRun.queueHeld, queue, flight, none, assembly, Assembly.held, claimed,
      Option.map_some, Option.getD_some, Option.map_none, Option.getD_none]
    omega
  have fewer : ∀ run : CircuitRun, run.queue = c.run.queue → run.flight = c.run.flight → run.assembly = none →
      run.held ≤ c.run.held := fun run queue flight none => Nat.le.intro (held run queue flight none).symm
  unfold State.decideDelivery
  split
  · split
    · next room =>
      refine .deliver h ?_ room _ _
      exact held _ rfl rfl rfl
    · refine .trans (State.rehold_work_of_le h ?_) (State.raiseLoss_work _ _ _)
      exact fewer _ rfl rfl rfl
  · refine State.rehold_work_of_le h ?_
    exact fewer _ rfl rfl rfl

end

theorem State.sendOut_work (id : CircuitId) (position : Nat) (d : Dest) : Work s (s.sendOut id position d).1 := by
  unfold State.sendOut
  split
  · exact .refl s
  · split
    · exact .refl s
    · exact s.withPort_work _

theorem State.openCircuit_work (id : CircuitId) (position : Nat) : Work s (s.openCircuit id position).1 := by
  unfold State.openCircuit
  split
  · exact .refl s
  · next c h =>
    split
    · unfold State.openOut
      split
      · split
        · exact (State.beginOut_work h).trans (State.sendOut_work _ _ _ _)
        · exact .refl s
      · exact s.sendOut_work _ _ _
    · unfold State.openIn
      split
      · dsimp only
        split
        · exact State.beginIn_work h
        · exact .refl s
      · exact .refl s

theorem State.closeOut_work (id : CircuitId) (position : Nat) : Work s (s.closeOut id position) := by
  unfold State.closeOut
  split
  · exact .refl s
  · next c h =>
    split
    · exact .refl s
    · next f flight =>
      have ended : ∀ run : CircuitRun, run.queue = c.run.queue → run.flight = none → run.assembly = c.run.assembly →
          run.held ≤ c.run.held := fun run queue none assembly => by
        simp only [CircuitRun.held, CircuitRun.queueHeld, queue, none, assembly, Option.map_none, Option.getD_none]
        omega
      split
      · split
        · exact State.rehold_work_of_le h (ended _ rfl rfl rfl)
        · exact State.rehold_work_of_le h (ended _ rfl rfl rfl)
      · refine State.setCircuit_work h ?_
        simp only [CircuitRun.held, CircuitRun.queueHeld, flight]
        rfl

theorem State.endAssembly_work (id : CircuitId) : Work s (s.endAssembly id) := by
  unfold State.endAssembly
  split
  · exact .refl s
  · next c h =>
    refine State.rehold_work_of_le h ?_
    simp only [CircuitRun.held, CircuitRun.queueHeld, Option.map_none, Option.getD_none]
    omega

theorem State.finishHeardUnit_work (id : CircuitId) : Work s (s.finishHeardUnit id) := by
  unfold State.finishHeardUnit
  split
  · exact .refl s
  · next c h =>
    split
    · exact .refl s
    · next a assembly =>
      split
      · exact s.endAssembly_work id
      · next bufs claimed => exact State.decideDelivery_work h assembly claimed _

theorem State.clearCircuit_work (id : CircuitId) (counters : Bool) : Work s (s.clearCircuit id counters) := by
  unfold State.clearCircuit
  split
  · exact .refl s
  · next c h => exact State.setCircuit_work h rfl

theorem State.carryOutAdoption_work : Work s s.carryOutAdoption :=
  .exchange ⟨s.carryOutAdoption_delivery, s.carryOutAdoption_balance, s.carryOutAdoption_engine, s.carryOutAdoption_batch,
    s.carryOutAdoption_link⟩

theorem State.adoptWithRecord_work : Work s s.adoptWithRecord := s.carryOutAdoption_work.trans (.event _ _)

/-! ### Batch items (R126 to R132) -/

variable {s} in
theorem State.endItem_work {c : CurrentItem} (run : s.batch.state = .running l r) (current : r.current = some c)
    (o : ItemOutcome) : Work s (s.endItem l r c o) :=
  .item run current r.abort o

variable {s} in
theorem State.answerItem_work {c : CurrentItem} (run : s.batch.state = .running l r) (current : r.current = some c)
    (j : Judgement) : Work s (s.answerItem l r c j) := by
  unfold State.answerItem
  split
  · exact State.endItem_work run current _
  · exact State.endItem_work run current _
  · exact State.endItem_work run current _
  · split
    · exact State.endItem_work run current _
    · exact s.setBatch_item_work run current

theorem State.cascadeBatch_work (a : StAddr) (o : TxnOutcome) : Work s (s.cascadeBatch a o) := by
  by_cases item : ∃ l r c, s.ItemAt a l r c
  · obtain ⟨l, r, c, item⟩ := item
    rw [State.cascadeBatch_of_itemAt item]
    obtain ⟨run, current, -⟩ := item
    exact State.endItem_work run current _
  · rw [State.cascadeBatch_none fun l r c at_ => item ⟨l, r, c, at_⟩]
    exact .refl s

theorem State.stopBatch_work (cause : StopCause) : Work s (s.stopBatch cause.outcome cause.endCause) := by
  unfold State.stopBatch
  split
  · exact .refl s
  · exact .refl s
  · next run =>
    split
    · next waiting =>
      split
      · exact .refl s
      · exact s.setBatch_decided_work run waiting (by cases cause <;> exact EndCause.noConfusion)
    · split
      · next current => exact State.endItem_work run current _
      · exact .refl s

theorem State.timeOutItem_work : Work s s.timeOutItem := by
  unfold State.timeOutItem
  split
  · next item =>
    obtain ⟨run, current⟩ := State.running_of_timedOutItem item
    exact State.endItem_work run current _
  · exact .refl s

/-! ### Host records, and what becomes of a station's (R74, R75, R81 to R84, R87, R100, R112) -/

/-- The examination of the host queue completes some of the records it passes (R100). -/
theorem State.examine_completes (rs : List HostRecord) (s : State) :
    ∃ gone, gone.Sublist rs ∧ (s.examine rs).1 = s.completeAll .stationUnavailable gone := by
  induction rs generalizing s with
  | nil => exact ⟨[], List.Sublist.refl _, rfl⟩
  | cons r rest ih =>
    have skipped : ∃ gone, gone.Sublist (r :: rest) ∧ (s.examine rest).1 = s.completeAll .stationUnavailable gone := by
      obtain ⟨gone, sub, done⟩ := ih s
      exact ⟨gone, sub.cons r, done⟩
    unfold State.examine
    split
    · split
      · exact ⟨[], List.nil_sublist _, rfl⟩
      · exact skipped
    · exact skipped
    · split
      · obtain ⟨gone, sub, done⟩ := ih (s.completeHost r .stationUnavailable 0 [])
        exact ⟨r :: gone, sub.cons_cons r, done⟩
      · split
        · exact ⟨[], List.nil_sublist _, rfl⟩
        · exact skipped

theorem State.examine_work : Work s (s.examine s.engine.queue).1 := by
  obtain ⟨gone, sub, done⟩ := State.examine_completes s.engine.queue s
  rw [done]
  exact .completeAll sub _

theorem State.timeOutRecords_work : Work s s.timeOutRecords := .completeAll List.filter_sublist _

theorem State.holderOf_mem {a : StAddr} {r : HostRecord} (h : s.holderOf a = some r) : r ∈ s.engine.queue := by
  unfold State.holderOf at h
  split at h
  · cases h
  · split at h
    · cases h
    · exact List.mem_of_find?_eq_some h

theorem State.cascadeHost_work (a : StAddr) (o : TxnOutcome) : Work s (s.cascadeHost a o).1 := by
  simp only [State.cascadeHost]
  refine .trans ?_ (.completeAll List.filter_sublist o)
  split
  · next r holds => exact .complete (s.holderOf_mem holds) o 0 []
  · exact .refl s

/-- A station's state changes and its circuits follow. -/
theorem State.setEntry_followStation_work (a : StAddr) (e : StationEntry) : Work s ((s.setEntry a e).followStation a) :=
  (s.setEntry_work a e).trans (State.followStation_work _ a)

theorem State.excludeNow_work (a : StAddr) : Work s (s.excludeNow a).1 :=
  ((s.setEntry_followStation_work a _).trans (State.cascadeHost_work _ a _)).trans (State.cascadeBatch_work _ a _)

theorem State.loseStation_work (a : StAddr) : Work s (s.loseStation a) :=
  (((s.setEntry_followStation_work a _).trans (State.cascadeHost_work _ a _)).trans
    (State.cascadeBatch_work _ a _)).trans (State.stationEvent_work _ _ _ _ _)

/-- A station's state changes and an event is offered. -/
theorem State.setEntry_stationEvent_work (a : StAddr) (e : StationEntry) (ev : StationEvent) (replaced : Bool)
    (i : Option Identity) : Work s ((s.setEntry a e).stationEvent a ev replaced i) :=
  (s.setEntry_work a e).trans (State.stationEvent_work _ _ _ _ _)

theorem State.heard_work (a : StAddr) : Work s (s.heard a) := by
  simp only [State.heard]
  split
  · exact s.setEntry_work a _
  · exact s.setEntry_work a _
  · exact s.setEntry_stationEvent_work a _ _ _ _
  all_goals exact .refl s

theorem State.missed_work (a : StAddr) : Work s (s.missed a) := by
  have counted : Work s (s.countMiss a) := by
    simp only [State.countMiss]
    split
    · exact (s.setEntry_work a _).trans (State.loseStation_work _ a)
    · split
      · exact s.setEntry_stationEvent_work a _ _ _ _
      · exact s.setEntry_work a _
  unfold State.missed
  cases (s.entry a).state
  case found | active | faulty => exact counted
  all_goals exact .refl s

theorem State.report_work (a : StAddr) (j : Judgement) : Work s (s.report a j) := by
  cases j with
  | good p => exact s.heard_work a
  | bad => exact s.missed_work a
  | silent => exact s.missed_work a

theorem State.rollAnswered_work (a : StAddr) (j : Judgement) : Work s (s.rollAnswered a j) := by
  have identified : ∀ i, Work s (s.identified a i) := fun i => by
    simp only [State.identified]
    split
    · exact s.setEntry_stationEvent_work a _ _ _ _
    · split
      · split
        · exact (s.setEntry_followStation_work a _).trans (State.stationEvent_work _ _ _ _ _)
        · exact s.setEntry_stationEvent_work a _ _ _ _
      · exact s.setEntry_stationEvent_work a _ _ _ _
    all_goals exact .refl s
  cases j with
  | good p => exact identified _
  | bad => exact .refl s
  | silent => exact .refl s

/-! ### Slots open (R14, R79, R95) -/

theorem State.askHost_work : Work s s.askHost.1 := by
  simp only [State.askHost]
  split
  · exact ((s.examine_work.trans (State.issueRequest_work _ _ _ _ _)).trans (State.setAttempt_work _ _ _)).trans
      (State.setTurn_work _ _)
  · exact s.examine_work

theorem State.askBatch_work : Work s s.askBatch.1 := by
  unfold State.askBatch
  split
  · next l r c it eligible =>
    obtain ⟨run, -, -, current, -⟩ := State.batchReady_of_eligible eligible
    have batch : (s.issueRequest (.batchItem r.pass c.index) ⟨.batch, r.tag⟩ it c.attempt).batch = s.batch := by
      simp only [State.issueRequest]
      split <;> rfl
    exact ((s.issueRequest_work _ _ _ _).trans (State.setBatch_item_work _ (by rw [batch]; exact run) current)).trans
      (State.setTurn_work _ _)
  · exact .refl s

theorem State.serveByTurn_work : Work s s.serveByTurn := by
  unfold State.serveByTurn
  cases s.engine.turn with
  | host =>
    dsimp only
    split
    · exact s.askHost_work
    · have asked := s.askHost_work.trans (State.askBatch_work _)
      split
      · exact asked
      · exact asked.trans (State.withPort_work _ _)
  | batch =>
    dsimp only
    split
    · exact s.askBatch_work
    · have asked := s.askBatch_work.trans (State.askHost_work _)
      split
      · exact asked
      · exact asked.trans (State.withPort_work _ _)

theorem State.arbitrate_work (k : Nat) : Work s (s.arbitrate k) := by
  have bids : ∀ b, Work s (s.sendBid b) := fun b => by cases b <;> exact .of_eq rfl rfl rfl rfl rfl rfl
  unfold State.arbitrate
  split
  · split
    · exact bids _
    · exact s.withPort_work _
  · split
    · split
      · exact bids _
      · exact s.serveByTurn_work
    · exact s.serveByTurn_work

theorem State.openNext_work : Work s s.openNext := by
  have used : ∀ (k : Nat) (u : State), Work u (u.openUse k).1 := fun k u => by
    unfold State.openUse
    split
    · exact u.arbitrate_work k
    · exact .refl u
    · exact u.openCircuit_work _ _
    · exact .refl u
  unfold State.openNext
  split
  · exact ((s.withPort_work _).trans (used _ _)).trans (State.withPort_work _ _)
  · exact .refl s

/-! ### Slots close (R16 to R18, R61, R63, R64, R104, R105, R113) -/

theorem State.hostAnswered_work (tag : Byte) (a : StAddr) (j : Judgement) : Work s (s.hostAnswered tag a j) := by
  unfold State.hostAnswered
  split
  · exact s.countStray_work j
  · next found =>
    have queued := List.mem_of_find?_eq_some found
    refine .trans ?_ (State.report_work _ a j)
    split
    · exact .complete queued _ _ _
    · exact .complete queued _ _ _
    · exact .complete queued _ _ _
    · exact s.setAttempt_work _ _

theorem State.batchAnswered_work (pass index : Nat) (a : StAddr) (j : Judgement) :
    Work s (s.batchAnswered pass index a j) := by
  unfold State.batchAnswered
  split
  · exact s.countStray_work j
  · next noted =>
    obtain ⟨run, current, -⟩ := State.running_of_notedItem noted
    exact (State.answerItem_work run current j).trans (State.report_work _ a j)

theorem State.pairAnswered_work (p : Pair) (j : Judgement) : Work s (s.pairAnswered p j) := by
  unfold State.pairAnswered
  split
  · exact s.rollAnswered_work _ j
  · exact s.report_work _ j
  · exact s.hostAnswered_work _ _ j
  · exact s.batchAnswered_work _ _ _ j

theorem State.circuitHeard_work (id : CircuitId) (position : Nat) (source : StAddr) (j : Judgement) :
    Work s (s.circuitHeard id position source j) := by
  have completed : ∀ (u : State) (a : Assembly), Work u (u.completeUnit id source a) := fun u a => by
    unfold State.completeUnit
    split
    · exact (u.heard_work source).trans (State.finishHeardUnit_work _ id)
    · exact (u.endAssembly_work id).trans (State.missed_work _ source)
  unfold State.circuitHeard
  split
  · exact .refl s
  · next c h =>
    split
    · exact .refl s
    · next a assembly =>
      have held : (a.judge position j).held = a.held := by
        unfold Assembly.held Assembly.judge
        cases a.bufs <;> simp
      have judged : Work s (s.judgeSlot id c a position j) := by
        refine State.setCircuit_work h ?_
        simp only [CircuitRun.held, CircuitRun.queueHeld, assembly, Option.map_some, Option.getD_some, held]
      dsimp only
      split
      · exact judged.trans (completed _ _)
      · exact judged

theorem State.closeMode_work (mode : SlotMode) (line : SlotLine) : Work s (s.closeMode mode line) := by
  cases mode with
  | sendCircuit id position => exact s.closeOut_work id position
  | sendPair => exact .refl s
  | listenCircuit id position source => exact (s.withPort_work _).trans (State.circuitHeard_work _ _ _ _ _)
  | listenReply =>
    simp only [State.closeMode]
    split
    · exact .refl s
    · exact (s.withPort_work _).trans (State.pairAnswered_work _ _ _)
  | quiet => exact s.withPort_work _

theorem State.closeNow_work (line : SlotLine) : Work s (s.closeNow line) := by
  unfold State.closeNow
  split
  · exact (s.withPort_work _).trans (State.closeMode_work _ _ _)
  · exact .refl s

/-! ### Frames stopping (R9) -/

variable {s} in
/-- The responses, where the records that they complete are those of the queue, oldest first (R114). -/
theorem State.stopSteps_work {steps : List StopStep} (queue : s.engine.queue = stepRecords steps) (cause : StopCause) :
    Work s (s.stopSteps cause steps) := by
  induction steps generalizing s with
  | nil => exact .refl s
  | cons step rest ih =>
    cases step with
    | trunkRecord => exact .trans (.event s _) (ih (s := s.trunkRecord cause) queue)
    | adoption =>
      have adopted : Work s s.adoptAtStop := .where_owed fun _ => s.adoptWithRecord_work
      refine adopted.trans (ih ?_)
      unfold State.adoptAtStop
      split
      · rw [s.adoptWithRecord_engine]; exact queue
      · exact queue
    | batchEnd => exact (s.stopBatch_work cause).trans (ih (by rw [State.stopBatch_engine]; exact queue))
    | complete r =>
      have head : s.engine.queue = r :: stepRecords rest := queue
      refine .trans (.complete (by rw [head]; exact List.mem_cons_self) _ 0 []) (ih ?_)
      rw [State.completeHost_queue, head, List.eraseP_cons_of_pos (by simp)]

theorem State.framesStop_work (cause : StopCause) : Work s (s.framesStop cause) := by
  obtain ⟨draw, stopped⟩ := s.framesStop_eq cause
  obtain ⟨free, delivery⟩ := s.stopBase_delivery cause
  rw [stopped]
  have base : Exchange s (s.stopBase cause) :=
    ⟨by rw [delivery], s.stopBase_pool cause, s.stopBase_engine cause, s.stopBase_batch cause, s.stopBase_link cause⟩
  exact .trans (.exchange base) (State.stopSteps_work (stepRecords_stopOrder _ _).symm cause)

/-! ### Work owed (log entry 3) -/

theorem State.enterRunning_work : Work s s.enterRunning :=
  ((s.withPort_work _).trans (State.runningFrameStart_work _)).trans (.event _ _)

theorem State.startFrame_work : Work s s.startFrame := by
  simp only [State.startFrame]
  split
  · exact (s.withPort_work _).trans (State.runningFrameStart_work _)
  · exact s.withPort_work _

theorem State.adoptAtFrameStart_work : Work s s.adoptAtFrameStart :=
  s.adoptWithRecord_work.trans (State.withPort_work _ _)

theorem State.settleEntry_work : Work s s.settleEntry := .where_owed fun _ => s.enterRunning_work
theorem State.settleAdoption_work : Work s s.settleAdoption := .where_owed fun _ => s.adoptAtFrameStart_work
theorem State.settleTimeouts_work : Work s s.settleTimeouts := .where_owed fun _ => s.timeOutRecords_work
theorem State.settleItemTimeout_work : Work s s.settleItemTimeout := .where_owed fun _ => s.timeOutItem_work

/-- The responses to a frame start, in each of their six orders. -/
theorem State.settleInOrder_work (n : Nat) : Work s (s.settleInOrder n) := by
  have adoption := State.settleAdoption_work
  have timeouts := State.settleTimeouts_work
  have item := State.settleItemTimeout_work
  unfold State.settleInOrder
  split
  · exact ((adoption _).trans (timeouts _)).trans (item _)
  · exact ((adoption _).trans (item _)).trans (timeouts _)
  · exact ((timeouts _).trans (adoption _)).trans (item _)
  · exact ((timeouts _).trans (item _)).trans (adoption _)
  · exact ((item _).trans (adoption _)).trans (timeouts _)
  · exact ((item _).trans (timeouts _)).trans (adoption _)

theorem State.settle_work : Work s s.settle := by
  have frameStart : Work s s.settleFrameStart := by
    simp only [State.settleFrameStart]
    split
    · have drawn : Work s.settleEntry (s.settleEntry.withDraws (s.settleEntry.draws + 1)) :=
        .of_eq rfl rfl rfl rfl rfl rfl
      exact (s.settleEntry_work.trans drawn).trans (State.settleInOrder_work _ _)
    · exact s.settleEntry_work
  have stop : ∀ u : State, Work u u.settleStop := fun u => .where_owed fun _ => u.framesStop_work .stop
  have room : ∀ u : State, Work u u.settleRoom := fun u => .where_owed Work.room
  unfold State.settle
  split
  · exact .refl s
  · exact (frameStart.trans (stop _)).trans (room _)

end

end Sys2Proof.Machine
end

section
/-! What work leaves of the pool, the record list, the credit counter and the replies (R136 to R138, R147, R157). -/

namespace Sys2Proof.Machine

variable {s t u : State} {l : BatchList} {r : BatchRun}

/-- Buffers only change hands, records join the record list at its tail, credits and replies stay. -/
structure Orderly (s t : State) : Prop where
  pool : t.delivery.free + t.circuitsHeld + t.delivery.held = s.delivery.free + s.circuitsHeld + s.delivery.held
  records : s.delivery.records <+: t.delivery.records
  credits : t.delivery.credits = s.delivery.credits
  replies : t.link.replies = s.link.replies

namespace Orderly

theorem refl (s : State) : Orderly s s := ⟨rfl, List.prefix_rfl, rfl, rfl⟩

theorem trans (h : Orderly s t) (h' : Orderly t u) : Orderly s u where
  pool := h'.pool.trans h.pool
  records := h.records.trans h'.records
  credits := h'.credits.trans h.credits
  replies := h'.replies.trans h.replies

/-- Records without buffers join the list; circuits hold what they held. -/
theorem of_sched (sched : t.sched = s.sched) (free : t.delivery.free = s.delivery.free)
    (held : t.delivery.held = s.delivery.held) (records : s.delivery.records <+: t.delivery.records)
    (credits : t.delivery.credits = s.delivery.credits) (replies : t.link.replies = s.link.replies) : Orderly s t :=
  ⟨by rw [free, held, State.circuitsHeld_congr sched], records, credits, replies⟩

/-- Work that leaves the delivery queue as it is. -/
theorem of_eq (sched : t.sched = s.sched) (delivery : t.delivery = s.delivery) (replies : t.link.replies = s.link.replies) :
    Orderly s t :=
  of_sched sched (by rw [delivery]) (by rw [delivery]) (by rw [delivery]) (by rw [delivery]) replies

end Orderly

/-- The buffers of circuits depend on the live schedule alone. -/
theorem State.circuitsHeld_of_live (h : t.sched.live = s.sched.live) : t.circuitsHeld = s.circuitsHeld := by
  simp only [State.circuitsHeld, State.liveTable, h]

section
variable (s)

theorem State.completeHost_orderly (x : HostRecord) (o : TxnOutcome) (reason : Byte) (data : List Byte) :
    Orderly s (s.completeHost x o reason data) := by
  refine .of_sched (s.completeHost_sched ..) ?_ ?_ ?_ ?_ (by rw [State.completeHost_link]) <;>
    simp [State.completeHost_delivery]

theorem State.completeAll_orderly (o : TxnOutcome) (rs : List HostRecord) (s : State) :
    Orderly s (s.completeAll o rs) := by
  induction rs generalizing s with
  | nil => exact .refl s
  | cons x rest ih => exact (s.completeHost_orderly x o 0 []).trans (ih _)

/-! ### The batch unit (R123, R128, R130) -/

theorem State.endPass_orderly (cause : EndCause) (oc : List (Option ItemOutcome)) : Orderly s (s.endPass l r cause oc) := by
  refine .of_sched (s.endPass_sched ..) ?_ ?_ ?_ ?_ (by rw [(s.endPass_inner l r cause oc).link]) <;>
    simp [State.endPass_delivery]

theorem State.holdProgress_orderly (p : PassProgress) : Orderly s (s.holdProgress l r p).1 := by
  cases p with
  | pendingItem i oc => exact .of_eq rfl rfl rfl
  | ended cause oc => exact s.endPass_orderly cause oc

theorem State.reserveBatch_orderly : Orderly s (s.onDelivery Delivery.reserveBatch) :=
  .of_sched rfl rfl rfl List.prefix_rfl rfl rfl

theorem State.startPass_orderly : Orderly s (s.startPass l r).1 := by
  unfold State.startPass
  split
  · exact s.reserveBatch_orderly.trans (State.holdProgress_orderly _ _)
  · exact .of_eq rfl rfl rfl

theorem State.runPasses_orderly (n : Nat) (l : BatchList) (r : BatchRun) (s : State) : Orderly s (s.runPasses n l r) := by
  induction n generalizing r s with
  | zero => exact .refl s
  | succ n ih =>
    simp only [State.runPasses]
    split
    · exact s.startPass_orderly.trans (ih _ _)
    · exact s.startPass_orderly

theorem State.endItem_orderly (c : CurrentItem) (o : ItemOutcome) : Orderly s (s.endItem l r c o) := by
  have cleared : Orderly s (s.clearItem l c) := by
    rw [State.clearItem_eq]
    exact .of_eq rfl rfl rfl
  rw [State.endItem_eq]
  refine cleared.trans ?_
  simp only [State.continueRun]
  split
  · exact (State.holdProgress_orderly _ _).trans (State.runPasses_orderly _ _ _ _)
  · exact State.holdProgress_orderly _ _

theorem State.takeRoom_orderly : Orderly s s.takeRoom := by
  unfold State.takeRoom
  split
  · exact .refl s
  · exact .refl s
  · split
    · exact s.reserveBatch_orderly.trans (State.endPass_orderly _ _ _)
    · exact s.runPasses_orderly _ _ _

theorem State.acceptRun_orderly (l : BatchList) (tag : Byte) (k : Nat) : Orderly s (s.acceptRun l tag k) := by
  refine .trans ?_ (State.runPasses_orderly _ _ _ _)
  exact .of_eq rfl rfl rfl

end

/-! ### All work -/

theorem Work.orderly (h : Work s t) : Orderly s t := by
  induction h with
  | refl s => exact .refl s
  | trans _ _ first second => exact first.trans second
  | aside h =>
    refine ⟨?_, by rw [h.delivery], by rw [h.delivery], h.replies⟩
    rw [h.delivery, State.circuitsHeld_of_live h.live]
  | exchange h =>
    obtain ⟨delivery, balance, -, -, link⟩ := h
    have held : ∀ d d' : Delivery, d' = { d with free := d'.free } → d'.held = d.held ∧ d'.records = d.records ∧
        d'.credits = d.credits := fun d d' same => by rw [same]; exact ⟨rfl, rfl, rfl⟩
    obtain ⟨held, records, credits⟩ := held _ _ delivery
    exact ⟨by rw [balance, held], by rw [records], credits, by rw [link]⟩
  | event s e =>
    exact .of_sched rfl (s.delivery.offerEvent_free e) (s.delivery.offerEvent_held e) (s.delivery.offerEvent_prefix e)
      (s.delivery.offerEvent_credits e) rfl
  | @deliver s id c₀ c bufs h held room f status =>
    have counted := s.circuitsHeld_setCircuit h c
    refine ⟨?_, ?_, ?_, ?_⟩
    · rw [State.circuitsHeld_congr (State.onDelivery_sched _ _)]
      simp only [State.onDelivery_delivery, State.setCircuit_delivery, Delivery.append_free, Delivery.append_held,
        DeliveryRecord.held]
      omega
    · simp
    · simp
    · simp
  | accept => exact .of_sched rfl rfl rfl List.prefix_rfl rfl rfl
  | complete => exact State.completeHost_orderly _ _ _ _ _
  | completeAll => exact State.completeAll_orderly _ _ _
  | accepted => exact State.acceptRun_orderly _ _ _ _
  | item => exact State.endItem_orderly _ _ _
  | room => exact State.takeRoom_orderly _

end Sys2Proof.Machine
end

section
/-! What a row comes to: work inside the part, and then one act of the row's own, which is the only place where a reply joins the
list, credits change, a record leaves the list, or the blocks return to their reset values. -/

namespace Sys2Proof.Machine

variable {i : Instr} {s t u : State} {tag : Byte}

/-! ### The forms of rows -/

/-- What a row does that is no work: one reply (R157), the count of a CREDIT with its reply (R146), a notice that begins (R143)
or ends (R144), a reply that ends (R159, R162), a reset (R164). -/
inductive Own (i : Instr) : State → State → Prop
  | none (u : State) : Own i u u
  | reply {u : State} (room : u.link.replies.length < Config.unansweredLimit) (tag : Byte) (a : Answer) :
      Own i u (u.pushReply tag a)
  | credit {u : State} {tag n : Byte} (row : i = .credit tag [n]) (room : u.link.replies.length < Config.unansweredLimit)
      (a : Answer) : Own i u ((u.onDelivery (Delivery.addCredits n.toNat)).pushReply tag a)
  | notice {u : State} (row : i = .noticeTransmit) (ready : u.noticeReady = true) : Own i u u.beginNotice
  | noticeSent {u : State} (row : i = .noticeSent) : Own i u u.endNotice
  | replySent {u : State} (row : i = .replySent) : Own i u u.endReply
  | reset (row : MayReset i) (u : State) {x : Link} (replies : x.replies = []) (tags : x.tags = []) :
      Own i u (u.resetBlocks x)

/-- Work, and then the row's own act. -/
def Row (i : Instr) (s t : State) : Prop := ∃ u, Work s u ∧ Own i u t

theorem Work.row (h : Work s t) : Row i s t := ⟨t, h, .none t⟩

theorem Own.row (h : Own i s t) : Row i s t := ⟨s, .refl s, h⟩

theorem Row.after (h : Work s t) (row : Row i t u) : Row i s u := by
  obtain ⟨v, work, own⟩ := row
  exact ⟨v, h.trans work, own⟩

theorem State.room_of_not_backlogged (h : s.backlogged = false) : s.link.replies.length < Config.unansweredLimit := by
  simp only [State.backlogged, Bool.or_eq_false_iff, decide_eq_false_iff_not, not_le] at h
  exact h.2

theorem State.discardFrame_work (s : State) : Work s s.discardFrame := s.withLink_work rfl rfl

/-- A request row: its owner works, and one reply is formed. -/
theorem takeRequest_row {b : Bool} {owner : State → State × Answer} (h : takeRequest tag b owner s = .next t)
    (own : ∀ u, b = true → Work u (owner u).1) : Row i s t := by
  obtain ⟨-, rfl⟩ | ⟨-, -, rfl⟩ | ⟨-, backlog, hb, rfl⟩ | ⟨-, backlog, -, rfl⟩ := takeRequest_cases b t h
  · exact (Work.refl _).row
  · exact (s.settle_work.trans (State.discardFrame_work _)).row
  · have owned := own s.settle hb
    refine ⟨_, s.settle_work.trans owned, .reply ?_ _ _⟩
    rw [owned.orderly.replies]
    exact State.room_of_not_backlogged backlog
  · exact ⟨_, s.settle_work, .reply (State.room_of_not_backlogged backlog) _ _⟩

/-- An event row, whose act is work or the row's own. -/
theorem onEvent_row {occasion : State → Bool} {act : State → State} (h : onEvent occasion act s = .next t)
    (acts : ∀ u, occasion u = true → Row i u (act u)) : Row i s t := by
  obtain ⟨-, rfl⟩ | ⟨-, occurs, rfl⟩ | ⟨-, -, rfl⟩ := onEvent_cases t h
  · exact (Work.refl _).row
  · exact .after s.settle_work (acts _ occurs)
  · exact s.settle_work.row

/-- An event row, whose act is work. -/
theorem onEvent_work {occasion : State → Bool} {act : State → State} (h : onEvent occasion act s = .next t)
    (acts : ∀ u, Work u (act u)) : Row i s t :=
  onEvent_row h fun u _ => (acts u).row

/-- A row that carries out owed work. -/
theorem onOwed_row {owed : State → Bool} {act : State → State} (h : onOwed owed act s = .next t)
    (acts : owed s = true → Work s (act s)) : Row i s t := by
  obtain ⟨-, owes, rfl⟩ | ⟨-, rfl⟩ := onOwed_cases t h
  · exact (acts owes).row
  · exact (Work.refl _).row

/-! ### Owners of requests -/

section
variable (s)

theorem ownStatus_work (p : List Byte) : Work s (ownStatus p s).1 := by
  refine checkFields_rec (.refl s) fun _ => ?_
  split
  · exact .of_eq rfl rfl rfl rfl rfl rfl
  · exact .refl s

theorem ownConfigure_work (p : List Byte) : Work s (ownConfigure p s).1 := by
  refine checkFields_rec (.refl s) fun _ => ?_
  unfold configureByState
  split
  · exact .refl s
  · exact .refl s
  · exact .refl s
  · exact s.withPort_work _
  · split
    · exact .refl s
    · exact s.withPort_work _

theorem ownStart_work : Work s (ownStart s).1 := by
  obtain same | started := ownStart_cases s
  · rw [same]; exact .refl s
  · rw [started]; exact .of_eq rfl rfl rfl rfl rfl rfl

theorem ownStop_work : Work s (ownStop s).1 := by
  have stopped : Work s s.stopRunning := by
    unfold State.stopRunning
    split
    · exact s.framesStop_work .stop
    · exact s.withPort_work _
  unfold ownStop
  split
  · exact .refl s
  · exact .refl s
  · exact s.withPort_work _
  · exact stopped
  · exact stopped

theorem ownDropCircuit_work (p : List Byte) : Work s (ownDropCircuit p s).1 := by
  refine checkFields_rec (.refl s) fun _ => editDraft_rec (.refl s) fun _ => ?_
  split
  · exact .refl s
  · exact s.setDraft_work _

theorem ownAdopt_work : Work s (ownAdopt s).1 := by
  have validated : ∀ pending, Work s (adoptValidated pending s).1 := fun pending => by
    unfold adoptValidated
    split
    · exact .refl s
    · split
      · exact .of_eq rfl rfl rfl rfl rfl rfl
      · exact s.carryOutAdoption_work
  unfold ownAdopt
  cases s.port.trunk
  case off => exact .refl s
  all_goals exact editDraft_rec (.refl s) fun _ => validated _

theorem onLiveOut_work {id : CircuitId} {go : LiveCircuit → State → State × Answer}
    (h : ∀ c, s.circuit id = some c → Work s (go c s).1) : Work s (onLiveOut id go s).1 := by
  unfold onLiveOut
  split
  · exact .refl s
  · next c live =>
    split
    · exact h c live
    · exact .refl s

/-- PUT claims its buffers only where more than those are free (R55, R135). -/
theorem ownPut_work (p : List Byte) : Work s (ownPut p s).1 := by
  refine checkFields_rec (.refl s) fun _ => onLiveOut_work s fun c live => ?_
  unfold putUnitOn
  split
  · exact .refl s
  · split
    · exact .refl s
    · split
      · next granted =>
        have free := (Delivery.outboundClaim_iff _ _).mp granted
        refine State.rehold_work live ?_
        simp only [CircuitRun.held, CircuitRun.queueHeld, List.map_append, List.sum_append, List.map_cons, List.map_nil,
          List.sum_cons, List.sum_nil]
        omega
      · exact .refl s

theorem ownPurge_work (p : List Byte) : Work s (ownPurge p s).1 := by
  refine checkFields_rec (.refl s) fun _ => onLiveOut_work s fun c live => State.rehold_work_of_le live ?_
  simp only [CircuitRun.held, CircuitRun.queueHeld, List.map_nil, List.sum_nil]
  omega

theorem ownReadCircuit_work (p : List Byte) : Work s (ownReadCircuit p s).1 := by
  refine checkFields_rec (.refl s) fun _ => ?_
  unfold readCircuitOn
  split
  · exact .refl s
  · exact s.clearCircuit_work _ _

theorem ownAdmit_work (p : List Byte) : Work s (ownAdmit p s).1 := by
  refine checkFields_rec (.refl s) fun _ => ?_
  simp only [admitOn]
  split
  · exact s.setEntry_followStation_work _ _
  · exact s.setEntry_work _ _
  · exact s.setEntry_work _ _
  all_goals exact .refl s

theorem ownRelease_work (p : List Byte) : Work s (ownRelease p s).1 := by
  refine checkFields_rec (.refl s) fun _ => ?_
  simp only [releaseOn]
  split
  · exact s.setEntry_work _ _
  · exact .refl s

theorem ownTransact_work (tag : Byte) (p : List Byte) : Work s (ownTransact tag p s).1 := by
  have resources : ∀ req, Work s (transactByResources tag req s).1 := fun req => by
    unfold transactByResources
    split
    · exact .refl s
    · next free =>
      split
      · exact .refl s
      · next few =>
        split
        · next room => exact .accept (Bool.eq_false_iff.mpr free) (Nat.lt_of_not_le few) room req
        · exact .refl s
  refine checkFields_rec (.refl s) fun _ => ?_
  unfold transactByState
  cases s.port.trunk
  case off | halted => exact .refl s
  all_goals exact resources _

theorem ownCancel_work (p : List Byte) : Work s (ownCancel p s).1 := by
  unfold ownCancel cancelTag
  split
  · exact .refl s
  · next found =>
    have queued := List.mem_of_find?_eq_some found
    split
    · exact .complete queued _ _ _
    · exact .complete queued _ _ _
    · exact .refl s

/-- A count that passes its check gives a run of at least one pass (R119, R122). -/
theorem passCount_pos {preset k : Nat} (legal : countFails preset k = false) : 1 ≤ passCount preset k := by
  simp only [countFails, Bool.or_eq_false_iff, Bool.and_eq_false_iff, beq_eq_false_iff_ne] at legal
  unfold passCount
  split <;> omega

/-- BATCH_LOAD stores its list, and with a count starts a run of it (R119, R120). -/
theorem ownBatchLoad_work (tag : Byte) (p : List Byte) : Work s (ownBatchLoad tag p s).1 := by
  refine checkFields_rec (.refl s) fun legal => ?_
  have idle : (∀ l r, s.batch.state ≠ .running l r) →
      Work s (batchLoadIdle tag (loadList p) (loadRunCount p) s).1 := fun idle => by
    have stored : Work s (s.storeList (loadList p)) := by
      refine .aside ⟨rfl, rfl, rfl, ?_, ?_, fun _ => trivial, rfl, rfl⟩
      all_goals
        cases state : s.batch.state with
        | empty => rfl
        | loaded l => rfl
        | running l r => exact absurd state (idle l r)
    cases count : loadRunCount p with
    | none => exact stored
    | some k =>
      have counted : countFails s.batch.preset k = false := by
        simp only [batchLoadFault, count, firstFault_eq_none_iff, List.forall_mem_append, List.forall_mem_singleton] at legal
        exact legal.2
      simp only [batchLoadIdle, loadAndRun]
      split
      · exact .refl s
      · split
        · exact .refl s
        · next free =>
          refine stored.trans (.accepted (fun _ _ => BatchState.noConfusion) ?_ _ k (passCount_pos counted))
          exact Bool.eq_false_iff.mpr free
  unfold batchLoadByState
  cases state : s.batch.state with
  | running l r => exact .refl s
  | empty => exact idle fun _ _ running => nomatch state.symm.trans running
  | loaded l => exact idle fun _ _ running => nomatch state.symm.trans running

theorem ownBatchRun_work (tag : Byte) (p : List Byte) : Work s (ownBatchRun tag p s).1 := by
  refine checkFields_rec (.refl s) fun legal => ?_
  unfold batchRunByState
  cases state : s.batch.state with
  | empty => exact .refl s
  | running l r => exact .refl s
  | loaded l =>
    dsimp only
    split
    · exact .refl s
    · split
      · exact .refl s
      · next free =>
        have counted := firstFault_eq_none_iff.mp legal _ (List.mem_singleton_self _)
        exact .accepted (fun _ _ running => nomatch state.symm.trans running) (Bool.eq_false_iff.mpr free) _ _
          (passCount_pos counted)

theorem ownBatchAbort_work : Work s (ownBatchAbort s).1 := by
  unfold ownBatchAbort
  split
  · exact .refl s
  · exact .refl s
  · next l r run =>
    unfold abortRun
    split
    · exact .refl s
    · split
      · next waiting =>
        unfold abortWaiting
        split
        · exact .refl s
        · exact s.setBatch_decided_work run waiting EndCause.noConfusion
      · split
        · next c current =>
          unfold abortItem
          split
          · exact s.setBatch_abort_work run
          · exact .item run current true ⟨.aborted, []⟩
          · exact .item run current true ⟨.notRun, []⟩
        · exact .refl s

end

/-- CREDIT: a count above 0 is added as the reply is formed (R146). -/
theorem exec_credit_row {p : List Byte} (h : exec (.credit tag p) s = .next t) : Row (.credit tag p) s t := by
  obtain ⟨-, rfl⟩ | ⟨-, -, rfl⟩ | ⟨-, backlog, short, rfl⟩ | ⟨-, backlog, -, rfl⟩ :=
    takeRequest_cases _ t ((exec_credit s tag p).symm.trans h)
  · exact (Work.refl _).row
  · exact (s.settle_work.trans (State.discardFrame_work _)).row
  · have room := State.room_of_not_backlogged backlog
    obtain ⟨n, rfl⟩ := List.length_eq_one_iff.mp (fixedLength_length short)
    refine ⟨_, s.settle_work, ?_⟩
    unfold ownCredit
    cases firstFault [(1, decide (numAt [n] 0 = 0))] with
    | none => exact .credit rfl room _
    | some f => exact .reply room _ _
  · exact ⟨_, s.settle_work, .reply (State.room_of_not_backlogged backlog) _ _⟩

/-! ### Every row -/

theorem State.collideNow_work (s : State) : Work s s.collideNow := by
  unfold State.collideNow
  split
  · unfold State.collideAt
    split
    · exact (s.withPort_work _).trans (State.framesStop_work _ _)
    · exact s.withPort_work _
  · exact .refl s

theorem State.beginBoot_work (s : State) : Work s s.beginBoot := by
  unfold State.beginBoot
  split
  · exact s.withLink_work rfl rfl
  · exact .refl s

theorem State.beginReply_work (s : State) : Work s s.beginReply := by
  unfold State.beginReply
  split
  · exact .refl s
  · exact s.withLink_work rfl rfl

/-- Every row is work, and then at most one act of its own. -/
theorem exec_row (h : exec i s = .next t) : Row i s t := by
  cases i with
  | hello tag p => exact takeRequest_row ((exec_hello s tag p).symm.trans h) fun u _ => .refl u
  | status tag p => exact takeRequest_row ((exec_status s tag p).symm.trans h) fun u _ => ownStatus_work u p
  | restart tag p => exact takeRequest_row ((exec_restart s tag p).symm.trans h) fun u _ => u.withLink_work rfl rfl
  | credit tag p => exact exec_credit_row h
  | configure tag p => exact takeRequest_row ((exec_configure s tag p).symm.trans h) fun u _ => ownConfigure_work u p
  | start tag p => exact takeRequest_row ((exec_start s tag p).symm.trans h) fun u _ => ownStart_work u
  | stop tag p => exact takeRequest_row ((exec_stop s tag p).symm.trans h) fun u _ => ownStop_work u
  | defineCircuit tag p =>
    exact takeRequest_row ((exec_defineCircuit s tag p).symm.trans h) fun u _ =>
      checkFields_rec (.refl u) fun _ => editDraft_rec (.refl u) fun _ => u.setDraft_work _
  | dropCircuit tag p => exact takeRequest_row ((exec_dropCircuit s tag p).symm.trans h) fun u _ => ownDropCircuit_work u p
  | setOpen tag p =>
    exact takeRequest_row ((exec_setOpen s tag p).symm.trans h) fun u _ =>
      checkFields_rec (.refl u) fun _ => editDraft_rec (.refl u) fun _ => u.setDraft_work _
  | adopt tag p => exact takeRequest_row ((exec_adopt s tag p).symm.trans h) fun u _ => ownAdopt_work u
  | revert tag p =>
    exact takeRequest_row ((exec_revert s tag p).symm.trans h) fun u _ => editDraft_rec (.refl u) fun _ => u.setDraft_work _
  | put tag p => exact takeRequest_row ((exec_put s tag p).symm.trans h) fun u _ => ownPut_work u p
  | purge tag p => exact takeRequest_row ((exec_purge s tag p).symm.trans h) fun u _ => ownPurge_work u p
  | readCircuit tag p => exact takeRequest_row ((exec_readCircuit s tag p).symm.trans h) fun u _ => ownReadCircuit_work u p
  | admitStation tag p => exact takeRequest_row ((exec_admitStation s tag p).symm.trans h) fun u _ => ownAdmit_work u p
  | excludeStation tag p =>
    exact takeRequest_row ((exec_excludeStation s tag p).symm.trans h) fun u _ =>
      checkFields_rec (.refl u) fun _ => u.excludeNow_work _
  | releaseStation tag p =>
    exact takeRequest_row ((exec_releaseStation s tag p).symm.trans h) fun u _ => ownRelease_work u p
  | queryStation tag p =>
    exact takeRequest_row ((exec_queryStation s tag p).symm.trans h) fun u _ => checkFields_rec (.refl u) fun _ => .refl u
  | transact tag p => exact takeRequest_row ((exec_transact s tag p).symm.trans h) fun u _ => ownTransact_work u tag p
  | cancel tag p => exact takeRequest_row ((exec_cancel s tag p).symm.trans h) fun u _ => ownCancel_work u p
  | batchLoad tag p => exact takeRequest_row ((exec_batchLoad s tag p).symm.trans h) fun u _ => ownBatchLoad_work u tag p
  | batchPreset tag p =>
    exact takeRequest_row ((exec_batchPreset s tag p).symm.trans h) fun u _ =>
      checkFields_rec (.refl u) fun _ => .of_eq rfl rfl rfl rfl rfl rfl
  | batchRun tag p => exact takeRequest_row ((exec_batchRun s tag p).symm.trans h) fun u _ => ownBatchRun_work u tag p
  | batchAbort tag p => exact takeRequest_row ((exec_batchAbort s tag p).symm.trans h) fun u _ => ownBatchAbort_work u
  | unknownKind kind tag p =>
    refine onEvent_row ((exec_unknownKind s kind tag p).symm.trans h) fun u _ => ?_
    split
    · exact u.discardFrame_work.row
    · next backlog => exact (Own.reply (State.room_of_not_backlogged (Bool.eq_false_iff.mpr backlog)) _ _).row
  | backlogDiscard => exact onEvent_work ((exec_backlogDiscard s).symm.trans h) fun u => u.discardFrame_work
  | crcError body crc =>
    exact onEvent_work ((exec_crcError s body crc).symm.trans h) fun u => u.withLink_work rfl rfl
  | formatError cause =>
    exact onEvent_work ((exec_formatError s cause).symm.trans h) fun u => u.withLink_work rfl rfl
  | interByteTimeout =>
    exact onEvent_work ((exec_interByteTimeout s).symm.trans h) fun u => u.withLink_work rfl rfl
  | powerOnReset pinLow rate1 rate0 =>
    obtain rfl := Host.Outcome.next.inj h
    refine (Own.reset (.inl ⟨pinLow, rate1, rate0, rfl⟩) s ?_ ?_).row <;> cases pinLow <;> rfl
  | resetPinAssert =>
    exact onEvent_work ((exec_resetPinAssert s).symm.trans h) fun u => .of_eq rfl rfl rfl rfl rfl rfl
  | resetPinRelease rate1 rate0 =>
    obtain rfl := Host.Outcome.next.inj h
    split
    · exact (Work.refl s).row
    · exact (Own.reset (.inr (.inl ⟨rate1, rate0, rfl⟩)) s rfl rfl).row
    · exact (Own.reset (.inr (.inl ⟨rate1, rate0, rfl⟩)) s rfl rfl).row
  | bootTransmit => exact onEvent_work ((exec_bootTransmit s).symm.trans h) fun u => u.beginBoot_work
  | bootSent => exact onEvent_work ((exec_bootSent s).symm.trans h) fun u => u.withLink_work rfl rfl
  | replyTransmit => exact onEvent_work ((exec_replyTransmit s).symm.trans h) fun u => u.beginReply_work
  | replySent => exact onEvent_row ((exec_replySent s).symm.trans h) fun u _ => (Own.replySent rfl).row
  | noticeTransmit => exact onEvent_row ((exec_noticeTransmit s).symm.trans h) fun u ready => (Own.notice rfl ready).row
  | noticeSent => exact onEvent_row ((exec_noticeSent s).symm.trans h) fun u _ => (Own.noticeSent rfl).row
  | batchRoomOffer => exact onOwed_row ((exec_batchRoomOffer s).symm.trans h) Work.room
  | frameStart => exact onEvent_work ((exec_frameStart s).symm.trans h) fun u => u.startFrame_work
  | enterRunning => exact onOwed_row ((exec_enterRunning s).symm.trans h) fun _ => s.enterRunning_work
  | adoptionAtRoundStart =>
    exact onOwed_row ((exec_adoptionAtRoundStart s).symm.trans h) fun _ =>
      s.settleEntry_work.trans (State.adoptAtFrameStart_work _)
  | deferTimeout => exact onOwed_row ((exec_deferTimeout s).symm.trans h) fun _ => s.timeOutRecords_work
  | batchItemTimeout => exact onOwed_row ((exec_batchItemTimeout s).symm.trans h) fun _ => s.timeOutItem_work
  | slotOpen => exact onEvent_work ((exec_slotOpen s).symm.trans h) fun u => u.openNext_work
  | slotClose line => exact onEvent_work ((exec_slotClose s line).symm.trans h) fun u => u.closeNow_work line
  | collision => exact onEvent_work ((exec_collision s).symm.trans h) fun u => u.collideNow_work
  | stopComplete => exact onOwed_row ((exec_stopComplete s).symm.trans h) fun _ => s.framesStop_work .stop

end Sys2Proof.Machine
end

section
/-! The law of the pool, the order of the record list, replies and credits, kept by every row: O5, O13, O15 and O16. -/

namespace Sys2Proof.Machine

variable {i : Instr} {s t : State} {x : Link}

/-! ### What a notice sent whole does to the delivery queue (R144, R145) -/

section
variable (d : Delivery)

@[simp] theorem Delivery.offerOverflow_free : d.offerOverflow.free = d.free := by
  obtain ⟨-, h⟩ | ⟨-, h⟩ := d.offerOverflow_cases <;> rw [h]
@[simp] theorem Delivery.offerOverflow_hostRes : d.offerOverflow.hostRes = d.hostRes := by
  obtain ⟨-, h⟩ | ⟨-, h⟩ := d.offerOverflow_cases <;> rw [h]
@[simp] theorem Delivery.offerOverflow_batchRes : d.offerOverflow.batchRes = d.batchRes := by
  obtain ⟨-, h⟩ | ⟨-, h⟩ := d.offerOverflow_cases <;> rw [h]
@[simp] theorem Delivery.offerOverflow_credits : d.offerOverflow.credits = d.credits := by
  obtain ⟨-, h⟩ | ⟨-, h⟩ := d.offerOverflow_cases <;> rw [h]
@[simp] theorem Delivery.offerOverflow_held : d.offerOverflow.held = d.held := by
  obtain ⟨-, h⟩ | ⟨-, h⟩ := d.offerOverflow_cases <;> simp [h, Delivery.held, DeliveryRecord.held]

theorem Delivery.offerOverflow_records : d.records <+: d.offerOverflow.records := by
  obtain ⟨-, h⟩ | ⟨-, h⟩ := d.offerOverflow_cases <;> simp [h]

end

section
variable (s)

@[simp] theorem State.endNotice_delivery : s.endNotice.delivery = s.delivery.removeHead.offerOverflow := rfl
@[simp] theorem State.endNotice_replies : s.endNotice.link.replies = s.link.replies := rfl

@[simp] theorem State.beginNotice_sched : s.beginNotice.sched = s.sched := by
  unfold State.beginNotice
  split <;> rfl
@[simp] theorem State.beginNotice_replies : s.beginNotice.link.replies = s.link.replies := by
  unfold State.beginNotice
  split <;> rfl

/-- The head record stays at the head, and a credit is spent (R143). -/
theorem State.beginNotice_of_ready (ready : s.noticeReady = true) : 1 ≤ s.delivery.credits ∧
    s.beginNotice.delivery = s.delivery.spendCredit ∧ ∃ f, s.beginNotice.link.tx = some ⟨.notice, f⟩ := by
  simp only [State.noticeReady, Bool.and_eq_true, decide_eq_true_eq, Bool.not_eq_true', List.isEmpty_eq_false_iff] at ready
  obtain ⟨⟨-, some_record⟩, credit⟩ := ready
  obtain ⟨r, rest, records⟩ := List.exists_cons_of_ne_nil some_record
  have begun : s.beginNotice = (s.onDelivery Delivery.spendCredit).transmit .notice r.frame := by
    rw [State.beginNotice, records]
  rw [begun]
  exact ⟨credit, rfl, _, rfl⟩

/-- A reply sent whole leaves the list, or is the last one and the restart takes place (R159, R162). -/
theorem State.endReply_cases : s.endReply = s.withLink { s.link with tx := none, replies := s.link.replies.tail } ∨
    ∃ x : Link, x.replies = [] ∧ x.tags = [] ∧ s.endReply = s.resetBlocks x := by
  simp only [State.endReply]
  split
  · exact .inr ⟨_, rfl, rfl, rfl⟩
  · exact .inl rfl

end

/-! ### The pool (R137) -/

theorem Orderly.poolLaw (h : Orderly s t) (law : s.PoolLaw) : t.PoolLaw := h.pool.trans law

/-- After a reset every buffer is free (R134). -/
theorem State.resetBlocks_poolLaw (s : State) (x : Link) : (s.resetBlocks x).PoolLaw := by
  have held : (s.resetBlocks x).circuitsHeld = 0 := by
    rw [State.circuitsHeld, show (s.resetBlocks x).liveTable = Table.replicate 32 none from rfl, Table.sum_replicate]
    rfl
  rw [State.PoolLaw, held]
  rfl

theorem Own.poolLaw (h : Own i s t) (law : s.PoolLaw) : t.PoolLaw := by
  cases h with
  | none => exact law
  | reply => exact law
  | credit => exact law
  | notice _ ready =>
    obtain ⟨-, spent, -⟩ := s.beginNotice_of_ready ready
    rw [State.PoolLaw, spent, State.circuitsHeld_congr s.beginNotice_sched]
    exact law
  | noticeSent =>
    have balance := s.delivery.removeHead_balance
    have law : s.delivery.free + s.circuitsHeld + s.delivery.held = Config.poolBuffers := law
    rw [State.PoolLaw, State.endNotice_delivery, Delivery.offerOverflow_free, Delivery.offerOverflow_held,
      State.circuitsHeld_congr (s := s.endNotice) (t := s) rfl]
    omega
  | replySent =>
    obtain sent | ⟨x, -, -, restarted⟩ := s.endReply_cases
    · rw [sent]; exact law
    · rw [restarted]; exact s.resetBlocks_poolLaw x
  | reset => exact s.resetBlocks_poolLaw _

/-- Settles O5: work only passes buffers on between the pool, the circuits and the records, and a removal gives those of its record
back. -/
theorem poolLawKept : Obligations.PoolLawKept := by
  intro c s t law h
  obtain ⟨u, work, own⟩ := exec_row h
  exact own.poolLaw (work.orderly.poolLaw law)

/-! ### The record list (R138, R143, R144, R149) -/

/-- Of the rows' own acts only the end of a notice and the resets change the record list. -/
theorem Own.records (h : Own i s t) (hi : ¬ MayReset i) : (i ≠ .noticeSent → t.delivery.records = s.delivery.records) ∧
    (t.delivery.records = s.delivery.records ∨ s.delivery.records.tail <+: t.delivery.records) := by
  cases h with
  | none => exact ⟨fun _ => rfl, .inl rfl⟩
  | reply => exact ⟨fun _ => rfl, .inl rfl⟩
  | credit => exact ⟨fun _ => rfl, .inl rfl⟩
  | notice _ ready =>
    obtain ⟨-, spent, -⟩ := s.beginNotice_of_ready ready
    rw [spent]
    exact ⟨fun _ => rfl, .inl rfl⟩
  | noticeSent row =>
    have removed := s.delivery.removeHead.offerOverflow_records
    rw [Delivery.removeHead_records] at removed
    exact ⟨fun other => absurd row other, .inr removed⟩
  | replySent row => exact absurd (.inr (.inr row)) hi
  | reset row => exact absurd row hi

/-- Settles O15: work appends, and the end of a notice takes the head. -/
theorem recordsStayInOrder : Obligations.RecordsStayInOrder := by
  intro c s t h
  obtain ⟨u, work, own⟩ := exec_row h
  have appended := work.orderly.records
  refine ⟨fun hc other => ?_, fun sent => ?_⟩
  · rw [(own.records hc).1 other]
    exact appended
  · have hc : ¬ MayReset c := by
      rw [sent]
      rintro (⟨a, b, d, row⟩ | ⟨a, b, row⟩ | row) <;> cases row
    obtain same | removed := (own.records hc).2
    · exact .inl (same ▸ appended)
    · have behind : s.delivery.records.tail <+: u.delivery.records.tail := by
        simpa only [List.drop_one] using appended.drop 1
      exact .inr (behind.trans removed)

/-! ### Replies and credits (R143, R146, R147, R155) -/

theorem Orderly.linkLaw (h : Orderly s t) (law : s.LinkLaw) : t.LinkLaw := by
  rw [State.LinkLaw, h.replies, h.credits]
  exact law

theorem Own.linkLaw (h : Own i s t) (law : s.LinkLaw) : t.LinkLaw := by
  obtain ⟨few, credits⟩ := law
  cases h with
  | none => exact ⟨few, credits⟩
  | reply room =>
    refine ⟨?_, credits⟩
    rw [State.pushReply_replies, List.length_append]
    exact room
  | credit _ room =>
    refine ⟨?_, min_le_left _ _⟩
    rw [State.pushReply_replies, List.length_append]
    exact room
  | notice _ ready =>
    obtain ⟨-, spent, -⟩ := s.beginNotice_of_ready ready
    rw [State.LinkLaw, State.beginNotice_replies, spent]
    exact ⟨few, (Nat.sub_le _ _).trans credits⟩
  | noticeSent => exact ⟨few, by simpa using credits⟩
  | replySent =>
    obtain sent | ⟨x, replies, -, restarted⟩ := s.endReply_cases
    · rw [sent]
      refine ⟨?_, credits⟩
      exact (List.tail_sublist _).length_le.trans few
    · rw [restarted]
      exact ⟨by rw [show (s.resetBlocks x).link = x from rfl, replies]; exact Nat.zero_le _, Nat.zero_le _⟩
  | @reset _ _ x replies _ =>
    exact ⟨by rw [show (s.resetBlocks x).link = x from rfl, replies]; exact Nat.zero_le _, Nat.zero_le _⟩

/-- Settles O13: a reply is formed only while fewer than 4 wait, and CREDIT stops at 255. -/
theorem linkLawKept : Obligations.LinkLawKept := by
  intro c s t law h
  obtain ⟨u, work, own⟩ := exec_row h
  exact own.linkLaw (work.orderly.linkLaw law)

/-- Of the rows' own acts only the start of a notice, a CREDIT and the resets move the credit counter. -/
theorem Own.credits (h : Own i s t) (hi : ¬ MayReset i) : t.delivery.credits = s.delivery.credits ∨
    (i = .noticeTransmit ∧ t.delivery.credits + 1 = s.delivery.credits ∧ ∃ f, t.link.tx = some ⟨.notice, f⟩) ∨
    ∃ tag n, i = .credit tag [n] ∧ t.delivery.credits = min 255 (s.delivery.credits + n.toNat) := by
  cases h with
  | none => exact .inl rfl
  | reply => exact .inl rfl
  | credit row => exact .inr (.inr ⟨_, _, row, rfl⟩)
  | notice row ready =>
    obtain ⟨credit, spent, sending⟩ := s.beginNotice_of_ready ready
    refine .inr (.inl ⟨row, ?_, sending⟩)
    rw [spent, Delivery.spendCredit_credits]
    exact Nat.sub_add_cancel credit
  | noticeSent => exact .inl (by simp)
  | replySent row => exact absurd (.inr (.inr row)) hi
  | reset row => exact absurd row hi

/-- Settles O16: work leaves the credit counter alone. -/
theorem creditsMoveOnlyByCreditAndNotice : Obligations.CreditsMoveOnlyByCreditAndNotice := by
  intro c s t law h hc
  obtain ⟨u, work, own⟩ := exec_row h
  have most : s.delivery.credits ≤ 255 := law.2
  have moved := own.credits hc
  rw [work.orderly.credits] at moved
  obtain same | ⟨row, spent, sending⟩ | ⟨tag, n, row, added⟩ := moved
  · exact ⟨fun fell => by omega, fun rose => by omega⟩
  · exact ⟨fun _ => ⟨row, spent, sending⟩, fun rose => by omega⟩
  · exact ⟨fun fell => by omega, fun _ => ⟨tag, n, row, added⟩⟩

end Sys2Proof.Machine
end

section
/-! Reservations, occupancy, host records and tags, kept by every row: O6. While a pass goes from one item to the next the stored
batch state lags behind, so the accounts are kept with the reservation and the tag of the run beside the state. -/

namespace Sys2Proof.Machine

variable {i : Instr} {s t : State} {held : Bool} {tags : List Byte} {tag : Byte} {l : BatchList} {r : BatchRun}

/-! ### The accounts (R116, R139, R142, R158) -/

/-- The accounts of R116, R142 and R158, with `held` for the batch reservation and `tags` for the tag of the run. -/
structure State.Accounts (held : Bool) (tags : List Byte) (s : State) : Prop where
  hostRes : s.delivery.hostRes = s.engine.queue.length
  batchRes : s.delivery.batchRes = held
  occupancy : s.delivery.occupancy ≤ Config.deliveryEntries
  records : s.engine.queue.length ≤ Config.hostRecords
  tags : s.link.tags.Perm (s.engine.queue.map HostRecord.tag ++ tags)
  distinct : s.link.tags.Nodup

theorem State.accounting_iff :
    s.Accounting ↔ s.Accounts s.batch.state.inPass s.batch.state.tags ∧ s.batch.state.shape :=
  ⟨fun ⟨hostRes, batchRes, occupancy, records, tags, distinct, shape⟩ =>
    ⟨⟨hostRes, batchRes, occupancy, records, tags, distinct⟩, shape⟩,
   fun ⟨⟨hostRes, batchRes, occupancy, records, tags, distinct⟩, shape⟩ =>
    ⟨hostRes, batchRes, occupancy, records, tags, distinct, shape⟩⟩

theorem State.Accounts.queueTags_nodup (h : s.Accounts held tags) : (s.engine.queue.map HostRecord.tag).Nodup :=
  (List.nodup_append.mp (h.tags.nodup_iff.mp h.distinct)).1

/-- What the accounts read stays, but the occupancy may change up to its limit. -/
theorem State.Accounts.congr (h : s.Accounts held tags) (hostRes : t.delivery.hostRes = s.delivery.hostRes)
    (batchRes : t.delivery.batchRes = s.delivery.batchRes) (occupancy : t.delivery.occupancy ≤ Config.deliveryEntries)
    (queue : t.engine.queue.map HostRecord.tag = s.engine.queue.map HostRecord.tag)
    (link : t.link.tags = s.link.tags) : t.Accounts held tags := by
  have length : t.engine.queue.length = s.engine.queue.length := by
    simpa only [List.length_map] using congrArg List.length queue
  exact ⟨by rw [hostRes, length, h.hostRes], batchRes.trans h.batchRes, occupancy, by rw [length]; exact h.records,
    by rw [queue, link]; exact h.tags, by rw [link]; exact h.distinct⟩

/-- The batch unit's state is stored, where the reservation and the tag are its own. -/
theorem State.Accounts.setBatch (h : s.Accounts held tags) {b : BatchState} (inPass : b.inPass = held)
    (own : b.tags = tags) (shape : b.shape) : (s.setBatch b).Accounting := by
  subst inPass own
  exact State.accounting_iff.mpr ⟨⟨h.hostRes, h.batchRes, h.occupancy, h.records, h.tags, h.distinct⟩, shape⟩

/-- The run in progress is the one whose state is stored. -/
theorem State.Accounting.accounts (h : s.Accounting) {b : BatchState} (state : s.batch.state = b) :
    s.Accounts b.inPass b.tags ∧ b.shape := by
  subst state
  exact State.accounting_iff.mp h

/-- Work that leaves the batch unit as it is. -/
theorem State.Accounting.congr (h : s.Accounting) (hostRes : t.delivery.hostRes = s.delivery.hostRes)
    (batchRes : t.delivery.batchRes = s.delivery.batchRes) (occupancy : t.delivery.occupancy ≤ Config.deliveryEntries)
    (queue : t.engine.queue = s.engine.queue) (batch : t.batch = s.batch) (link : t.link.tags = s.link.tags) :
    t.Accounting := by
  obtain ⟨accounts, shape⟩ := State.accounting_iff.mp h
  rw [State.accounting_iff, batch]
  exact ⟨accounts.congr hostRes batchRes occupancy (by rw [queue]) link, shape⟩

theorem Aside.accounting (h : Aside s t) (acc : s.Accounting) : t.Accounting := by
  obtain ⟨accounts, shape⟩ := State.accounting_iff.mp acc
  rw [State.accounting_iff, h.inPass, h.batchTags]
  have occupancy : t.delivery.occupancy ≤ Config.deliveryEntries := by rw [h.delivery]; exact acc.occupancy
  exact ⟨accounts.congr (by rw [h.delivery]) (by rw [h.delivery]) occupancy h.queue h.tags, h.shape shape⟩

theorem Exchange.accounting (h : Exchange s t) (acc : s.Accounting) : t.Accounting := by
  obtain ⟨delivery, -, engine, batch, link⟩ := h
  have same : ∀ d d' : Delivery, d' = { d with free := d'.free } → d'.hostRes = d.hostRes ∧ d'.batchRes = d.batchRes ∧
      d'.occupancy = d.occupancy := fun d d' same => by rw [same]; exact ⟨rfl, rfl, rfl⟩
  obtain ⟨hostRes, batchRes, occupancy⟩ := same _ _ delivery
  exact acc.congr hostRes batchRes (occupancy.le.trans acc.occupancy) (by rw [engine]) batch (by rw [link])

theorem State.Accounting.offerEvent (acc : s.Accounting) (e : EventRecord) : (s.offerEvent e).Accounting :=
  acc.congr (s.delivery.offerEvent_hostRes e) (s.delivery.offerEvent_batchRes e)
    (s.delivery.offerEvent_occupancy_le e acc.occupancy) rfl rfl rfl

/-! ### Host records (R98, R108, R112) -/

/-- A record leaves the queue with its tag, its DONE record takes the place of its reservation (R108, R139). -/
theorem State.Accounting.completeHost {x : HostRecord} (acc : s.Accounting) (queued : x ∈ s.engine.queue) (o : TxnOutcome)
    (reason : Byte) (data : List Byte) : (s.completeHost x o reason data).Accounting := by
  obtain ⟨before, after, split⟩ := List.append_of_mem queued
  have left : (s.completeHost x o reason data).engine.queue = before ++ after := by
    have nodup := acc.queueTags_nodup
    rw [split] at nodup
    rw [State.completeHost_queue, split, HostRecord.eraseP_middle nodup]
  have length : s.engine.queue.length = (before ++ after).length + 1 := by
    rw [split, List.length_append, List.length_append, List.length_cons, Nat.add_assoc]
  have reserved := acc.hostRes
  refine State.accounting_iff.mpr ⟨?_, by rw [State.completeHost_batch]; exact acc.shape⟩
  rw [State.completeHost_batch]
  refine ⟨?_, ?_, ?_, ?_, ?_, ?_⟩
  · rw [State.completeHost_delivery, Delivery.appendDone_hostRes, left, reserved, length, Nat.add_sub_cancel]
  · rw [State.completeHost_delivery, Delivery.appendDone_batchRes]
    exact acc.batchRes
  · rw [State.completeHost_delivery, Delivery.appendDone_occupancy _ _ _ _ _ (by omega)]
    exact acc.occupancy
  · rw [left]
    have most := acc.records
    omega
  · have erased := acc.tags.erase x.tag
    rw [split, List.map_append, List.map_cons, List.append_assoc, List.cons_append] at erased
    rw [State.completeHost_link, left, List.map_append, List.append_assoc]
    exact erased.trans ((List.perm_middle.erase x.tag).trans (by rw [List.erase_cons_head]))
  · rw [State.completeHost_link]
    exact acc.distinct.erase _

/-- The other records of a sublist stay in the queue as the first completes. -/
theorem State.Accounting.completeAll {rs : List HostRecord} (acc : s.Accounting) (queued : rs.Sublist s.engine.queue)
    (o : TxnOutcome) : (s.completeAll o rs).Accounting := by
  induction rs generalizing s with
  | nil => exact acc
  | cons x rest ih =>
    refine ih (acc.completeHost (queued.subset List.mem_cons_self) o 0 []) ?_
    have nodup := acc.queueTags_nodup
    have others : ∀ y ∈ rest, y.tag ≠ x.tag := fun y hy same =>
      (List.nodup_cons.mp (nodup.sublist (queued.map HostRecord.tag))).1 (same ▸ List.mem_map_of_mem hy)
    rw [State.completeHost_queue, eraseP_tag_eq_filter nodup]
    have kept : rest.filter (fun y => y.tag ≠ x.tag) = rest :=
      List.filter_eq_self.mpr fun y hy => decide_eq_true (others y hy)
    exact kept ▸ ((List.sublist_cons_self x rest).trans queued).filter _

theorem State.tag_not_mem (free : s.tagHeld tag = false) : tag ∉ s.link.tags := fun mem => by
  rw [State.tagHeld_iff.mpr mem] at free
  cases free

/-- A TRANSACT takes a record, a reservation and a tag that are free (R98). -/
theorem State.Accounting.acceptTransaction (acc : s.Accounting) (free : s.tagHeld tag = false)
    (few : s.engine.queue.length < Config.hostRecords) (room : s.delivery.hasRoom = true) (req : TxnRequest) :
    (s.acceptTransaction tag req).Accounting := by
  have below := (Delivery.hasRoom_iff _).mp room
  have length : (s.acceptTransaction tag req).engine.queue.length = s.engine.queue.length + 1 := List.length_append
  refine ⟨?_, acc.batchRes, ?_, ?_, ?_, ?_, acc.shape⟩
  · rw [length, ← acc.hostRes]
    rfl
  · exact (s.delivery.reserveHost_occupancy).trans_le below
  · rw [length]
    exact few
  · change (s.link.tags ++ [tag]).Perm ((s.engine.queue ++ [(⟨tag, req, .fresh⟩ : HostRecord)]).map HostRecord.tag ++ _)
    rw [List.map_append, List.append_assoc]
    refine (acc.tags.append_right [tag]).trans ?_
    rw [List.append_assoc]
    exact List.perm_append_comm.append_left _
  · exact List.nodup_append.mpr ⟨acc.distinct, List.nodup_singleton tag, fun y hy z hz same =>
      s.tag_not_mem free (List.mem_singleton.mp hz ▸ same ▸ hy)⟩

/-! ### Passes of a batch run (R122, R123, R128, R130) -/

/-- The PASS record takes the place of the reservation; with the final one the tag is released, else the next pass is to ask for a
reservation of its own (R130, R139). -/
theorem State.Accounts.endPass (h : s.Accounts true [r.tag]) (cause : EndCause) (oc : List (Option ItemOutcome)) :
    if finalPass cause r then (s.endPass l r cause oc).Accounting else (s.endPass l r cause oc).Accounts false [r.tag] := by
  have occupancy := s.delivery.appendPass_occupancy r.tag r.pass (finalPass cause r) cause (recordOutcomes oc) h.batchRes
  have occupancy := occupancy.trans_le h.occupancy
  unfold State.endPass
  cases final : finalPass cause r with
  | true =>
    rw [final] at occupancy
    refine ⟨h.hostRes, rfl, occupancy, h.records, ?_, h.distinct.erase _, trivial⟩
    have released := (h.tags.trans List.perm_append_comm).erase r.tag
    rw [List.singleton_append, List.erase_cons_head] at released
    exact released.trans (.of_eq (List.append_nil _).symm)
  | false =>
    rw [final] at occupancy
    exact ⟨h.hostRes, rfl, occupancy, h.records, h.tags, h.distinct⟩

/-- Where the items of a pass lead: to a stored state, or to one more pass of the run. -/
def State.PassOn (r : BatchRun) (x : State × Bool) : Prop :=
  if x.2 then x.1.Accounts false [r.tag] ∧ r.pass < r.passes else x.1.Accounting

theorem State.Accounts.holdProgress (h : s.Accounts true [r.tag]) (inPass : r.waiting = false) (undecided : r.decided = none)
    (p : PassProgress) : State.PassOn r (s.holdProgress l r p) := by
  cases p with
  | pendingItem n oc =>
    refine h.setBatch ?_ rfl ⟨fun waiting => Bool.noConfusion (inPass.symm.trans waiting), fun _ => ⟨rfl, undecided⟩, ?_⟩
    · exact congrArg not inPass
    · exact fun decided => nomatch undecided.symm.trans decided
  | ended cause oc =>
    have ended := h.endPass (l := l) cause oc
    change if (!finalPass cause r) = true then (s.endPass l r cause oc).Accounts false [r.tag] ∧ r.pass < r.passes
      else (s.endPass l r cause oc).Accounting
    cases final : finalPass cause r with
    | true =>
      rw [if_pos final] at ended
      exact (if_neg Bool.false_ne_true).mpr ended
    | false =>
      rw [if_neg (final ▸ Bool.false_ne_true)] at ended
      simp only [finalPass, Bool.or_eq_false_iff, decide_eq_false_iff_not, not_le] at final
      exact (if_pos rfl).mpr ⟨ended, final.2⟩

/-- A pass starts with its reservation, or waits without (R123). -/
theorem State.Accounts.startPass (h : s.Accounts false [r.tag]) (undecided : r.decided = none) :
    State.PassOn r (s.startPass l r) := by
  unfold State.startPass
  split
  · next room =>
    have below : s.delivery.occupancy < 128 := (Delivery.hasRoom_iff _).mp room
    have free := h.batchRes
    have reserved : (s.onDelivery Delivery.reserveBatch).Accounts true [r.tag] := by
      refine ⟨h.hostRes, rfl, ?_, h.records, h.tags, h.distinct⟩
      simp only [Delivery.occupancy, free, Bool.toNat_false] at below
      exact below
    exact reserved.holdProgress (r := { r with waiting := false, current := none }) rfl undecided _
  · exact h.setBatch rfl rfl ⟨fun _ => rfl, fun passing => Bool.noConfusion passing,
      fun decided => nomatch undecided.symm.trans decided⟩

/-- Pass after pass: the count suffices for the passes that are left (R123, R130). -/
theorem State.Accounts.runPasses {n : Nat} (h : s.Accounts false [r.tag]) (undecided : r.decided = none) (some_pass : 0 < n)
    (enough : r.passes < n + r.pass) : (s.runPasses n l r).Accounting := by
  induction n generalizing r s with
  | zero => exact absurd some_pass (Nat.lt_irrefl 0)
  | succ n ih =>
    have passed := h.startPass (l := l) undecided
    unfold State.PassOn at passed
    simp only [State.runPasses]
    split
    · next again =>
      rw [if_pos again] at passed
      obtain ⟨accounts, more⟩ := passed
      exact ih (r := { r with pass := r.pass + 1 }) accounts undecided (by omega) (by dsimp only; omega)
    · next done =>
      rw [if_neg done] at passed
      exact passed

theorem State.Accounts.continueRun (h : s.Accounts true [r.tag]) (inPass : r.waiting = false) (undecided : r.decided = none)
    (p : PassProgress) : (s.continueRun l r p).Accounting := by
  have held := h.holdProgress (l := l) inPass undecided p
  unfold State.PassOn at held
  simp only [State.continueRun]
  split
  · next again =>
    rw [if_pos again] at held
    obtain ⟨accounts, more⟩ := held
    exact accounts.runPasses (r := { r with pass := r.pass + 1, waiting := false }) undecided (by omega)
      (by dsimp only; omega)
  · next done =>
    rw [if_neg done] at held
    exact held

/-! ### Runs (R122, R128, R132) -/

/-- The current item ends, in a pass that holds its reservation (R128, R129). -/
theorem State.Accounting.endItem {c : CurrentItem} (acc : s.Accounting) (run : s.batch.state = .running l r)
    (current : r.current = some c) (abort : Bool) (o : ItemOutcome) :
    (s.endItem l { r with abort := abort } c o).Accounting := by
  obtain ⟨accounts, rests, passes, -⟩ := acc.accounts run
  have inPass : r.waiting = false := by
    cases waiting : r.waiting with
    | false => rfl
    | true => exact nomatch (rests waiting).symm.trans current
  rw [BatchState.inPass, inPass] at accounts
  have cleared : (s.clearItem l c).Accounts true [r.tag] := by
    rw [State.clearItem_eq]
    exact ⟨accounts.hostRes, accounts.batchRes, accounts.occupancy, accounts.records, accounts.tags, accounts.distinct⟩
  rw [State.endItem_eq]
  exact cleared.continueRun (r := { r with abort := abort }) inPass (passes inPass).2 _

/-- A pass that waits takes a place for its items or, where its end is decided, for its PASS record (R123, R132, R144). -/
theorem State.Accounting.takeRoom (acc : s.Accounting) (offered : s.roomOffered = true) : s.takeRoom.Accounting := by
  unfold State.takeRoom
  split
  · exact acc
  · exact acc
  · next l r run =>
    obtain ⟨accounts, -, -, incomplete⟩ := acc.accounts run
    simp only [State.roomOffered, run, Bool.and_eq_true] at offered
    obtain ⟨waiting, room⟩ := offered
    rw [BatchState.inPass, waiting] at accounts
    split
    · next cause decided =>
      have final : finalPass cause r = true := by
        have ends : cause ≠ .complete := fun same => incomplete (decided.trans (congrArg some same))
        simp [finalPass, ends]
      have below : s.delivery.occupancy < 128 := (Delivery.hasRoom_iff _).mp room
      have free : s.delivery.batchRes = false := accounts.batchRes
      have reserved : (s.onDelivery Delivery.reserveBatch).Accounts true [r.tag] := by
        refine ⟨accounts.hostRes, rfl, ?_, accounts.records, accounts.tags, accounts.distinct⟩
        simp only [Delivery.occupancy, free, Bool.toNat_false] at below
        exact below
      have ended := reserved.endPass (l := l) cause l.noOutcomes
      rwa [if_pos final] at ended
    · next undecided =>
      exact State.Accounts.runPasses (r := { r with waiting := false }) accounts undecided (Nat.succ_pos _)
        (by dsimp only; omega)

/-- A run starts under a free tag (R122). -/
theorem State.Accounting.acceptRun (acc : s.Accounting) (idle : ∀ l r, s.batch.state ≠ .running l r)
    (free : s.tagHeld tag = false) (l : BatchList) (k : Nat) (some_pass : 1 ≤ passCount s.batch.preset k) :
    (s.acceptRun l tag k).Accounting := by
  have accounts : s.Accounts false [] := by
    obtain ⟨accounts, -⟩ := State.accounting_iff.mp acc
    cases state : s.batch.state with
    | empty => rwa [state] at accounts
    | loaded l => rwa [state] at accounts
    | running l r => exact absurd state (idle l r)
  refine State.Accounts.runPasses (r := ⟨tag, _, 1, _, _, _, none, _⟩) ?_ rfl some_pass (Nat.lt_succ_self _)
  refine ⟨accounts.hostRes, accounts.batchRes, accounts.occupancy, accounts.records, ?_, ?_⟩
  · have old := accounts.tags
    rw [List.append_nil] at old
    exact old.append_right [tag]
  · exact List.nodup_append.mpr ⟨accounts.distinct, List.nodup_singleton tag, fun y hy z hz same =>
      s.tag_not_mem free (List.mem_singleton.mp hz ▸ same ▸ hy)⟩

/-! ### Every row -/

theorem Work.accounting (h : Work s t) (acc : s.Accounting) : t.Accounting := by
  induction h with
  | refl => exact acc
  | trans _ _ first second => exact second (first acc)
  | aside h => exact h.accounting acc
  | exchange h => exact h.accounting acc
  | event s e => exact acc.offerEvent e
  | @deliver s id c₀ c bufs h held room f status =>
    have below := (Delivery.belowHighMark_iff _).mp room
    refine acc.congr ?_ ?_ ?_ ?_ ?_ ?_
    · simp
    · simp
    · rw [State.onDelivery_delivery, Delivery.append_occupancy, State.setCircuit_delivery]
      exact below.trans (by decide)
    · simp
    · simp
    · simp
  | accept free few room req => exact acc.acceptTransaction free few room req
  | complete queued o reason data => exact acc.completeHost queued o reason data
  | completeAll queued o => exact acc.completeAll queued o
  | accepted idle free l k some_pass => exact acc.acceptRun idle free l k some_pass
  | item run current abort o => exact acc.endItem run current abort o
  | room offered => exact acc.takeRoom offered

/-- After a reset there are no reservations, records, transactions or tags (R94, R118, R138, R158). -/
theorem State.resetBlocks_accounting (s : State) {x : Link} (tags : x.tags = []) : (s.resetBlocks x).Accounting := by
  refine ⟨rfl, rfl, Nat.zero_le _, Nat.zero_le _, ?_, ?_, trivial⟩
  all_goals rw [show (s.resetBlocks x).link = x from rfl, tags]
  · exact .refl _
  · exact List.nodup_nil

/-- A record removed leaves room for an OVERFLOW record; with no record to remove the reservations leave room (R142, R144, R145). -/
theorem State.Accounting.endNotice (acc : s.Accounting) : s.endNotice.Accounting := by
  refine acc.congr (by simp) (by simp) ?_ rfl rfl rfl
  have occupancy : s.delivery.occupancy ≤ 128 := acc.occupancy
  have few : s.delivery.hostRes ≤ 24 := acc.hostRes.trans_le acc.records
  have one : s.delivery.batchRes.toNat ≤ 1 := Bool.toNat_le _
  have appended : s.delivery.removeHead.offerOverflow.records.length ≤ s.delivery.records.tail.length + 1 := by
    obtain ⟨-, h⟩ | ⟨-, h⟩ := s.delivery.removeHead.offerOverflow_cases <;> rw [h] <;> simp
  rw [List.length_tail] at appended
  rw [Delivery.occupancy_eq] at occupancy
  rw [State.endNotice_delivery, Delivery.occupancy_eq, Delivery.offerOverflow_hostRes, Delivery.offerOverflow_batchRes,
    Delivery.removeHead_hostRes, Delivery.removeHead_batchRes, Config.deliveryEntries]
  omega

theorem Own.accounting (h : Own i s t) (acc : s.Accounting) : t.Accounting := by
  cases h with
  | none => exact acc
  | reply => exact acc.congr rfl rfl acc.occupancy rfl rfl rfl
  | credit => exact acc.congr rfl rfl acc.occupancy rfl rfl rfl
  | notice _ ready =>
    obtain ⟨-, spent, -⟩ := s.beginNotice_of_ready ready
    have others : s.beginNotice.engine = s.engine ∧ s.beginNotice.batch = s.batch ∧
        s.beginNotice.link.tags = s.link.tags := by
      unfold State.beginNotice
      split <;> exact ⟨rfl, rfl, rfl⟩
    obtain ⟨engine, batch, link⟩ := others
    exact acc.congr (by rw [spent]; rfl) (by rw [spent]; rfl) (by rw [spent]; exact acc.occupancy) (by rw [engine]) batch link
  | noticeSent => exact acc.endNotice
  | replySent =>
    obtain sent | ⟨x, -, tags, restarted⟩ := s.endReply_cases
    · rw [sent]
      exact acc.congr rfl rfl acc.occupancy rfl rfl rfl
    · rw [restarted]
      exact s.resetBlocks_accounting tags
  | reset _ _ _ tags => exact s.resetBlocks_accounting tags

/-- Settles O6: each transaction and each pass enters with its reservation and its tag and leaves with a record in their place. -/
theorem accountingKept : Obligations.AccountingKept := by
  intro c s t acc h
  obtain ⟨u, work, own⟩ := exec_row h
  exact own.accounting (work.accounting acc)

end Sys2Proof.Machine
end

section
/-! CREDIT, and the transmitter: O28 and O52. -/

namespace Sys2Proof.Machine

variable {s : State} {f : List Byte}

/-! ### CREDIT (R146) -/

theorem ownCredit_zero : ownCredit [0] s = (s, .refuseWith .badField 1) := rfl

theorem ownCredit_of_ne_zero {n : Byte} (h : n ≠ 0) : ownCredit [n] s =
    ({ s with delivery.credits := min 255 (s.delivery.credits + n.toNat) }, .ok (min 255 (s.delivery.credits + n.toNat))) := by
  have count : numAt [n] 0 = n.toNat := rfl
  have counts : n.toNat ≠ 0 := fun zero => h (BitVec.eq_of_toNat_eq zero)
  have legal : firstFault [(1, decide (numAt [n] 0 = 0))] = none := by simp [firstFault, count, counts]
  rw [ownCredit, legal]
  rfl

/-- Settles O28: a count of 0 is a bad field, any other is added. -/
theorem creditAddsSaturating : Obligations.CreditAddsSaturating := by
  intro tag n s hs
  rw [exec_credit, show fixedLength 1 [n] = true from rfl, takeRequest_taken hs]
  by_cases h : n = 0
  · rw [if_pos h, h, ownCredit_zero, State.pushReply_refuseWith]
  · rw [if_neg h, ownCredit_of_ne_zero h]
    rfl

/-! ### What the transmitter takes (R143, R159) -/

/-- A frame on HTX is never interrupted. -/
theorem exec_transmit_of_busy (hs : s.Open) (busy : s.link.tx ≠ none) :
    ∀ c ∈ [Instr.bootTransmit, .replyTransmit, .noticeTransmit], exec c s = .next s := by
  have sending : s.link.tx.isNone = false := Option.isNone_eq_false_iff.mpr (Option.isSome_iff_ne_none.mpr busy)
  simp only [List.forall_mem_cons, exec_bootTransmit, exec_replyTransmit, exec_noticeTransmit]
  exact ⟨onEvent_idle hs (by simp [State.bootReady, sending]), onEvent_idle hs (by simp [State.replyReady, sending]),
    onEvent_idle hs (by simp [State.noticeReady, sending]), List.forall_mem_nil _⟩

theorem exec_bootTransmit_of_free (hs : s.Open) (free : s.link.tx = none) {cause : BootCause} (boot : s.link.boot = some cause) :
    exec .bootTransmit s = .next (s.transmit .boot cause.frame) := by
  rw [exec_bootTransmit, onEvent_acts hs (by simp [State.bootReady, free, boot]), State.beginBoot, boot]

/-- BOOT goes before every reply and notice. -/
theorem exec_transmit_of_boot (hs : s.Open) {cause : BootCause} (boot : s.link.boot = some cause) :
    exec .replyTransmit s = .next s ∧ exec .noticeTransmit s = .next s := by
  rw [exec_replyTransmit, exec_noticeTransmit]
  exact ⟨onEvent_idle hs (by simp [State.replyReady, boot]), onEvent_idle hs (by simp [State.noticeReady, boot])⟩

theorem exec_replyTransmit_of_free (hs : s.Open) (free : s.link.tx = none) (boot : s.link.boot = none) {r : Reply}
    {rest : List Reply} (replies : s.link.replies = r :: rest) :
    exec .replyTransmit s = .next (s.transmit .reply r.frame) := by
  rw [exec_replyTransmit, onEvent_acts hs (by simp [State.replyReady, free, boot, replies]), State.beginReply, replies]

/-- Replies go before every notice. -/
theorem exec_noticeTransmit_of_reply (hs : s.Open) {r : Reply} {rest : List Reply} (replies : s.link.replies = r :: rest) :
    exec .noticeTransmit s = .next s := by
  rw [exec_noticeTransmit]
  exact onEvent_idle hs (by simp [State.noticeReady, replies])

/-- The notice of the head record costs a credit. -/
theorem exec_noticeTransmit_of_free (hs : s.Open) (free : s.link.tx = none) (boot : s.link.boot = none)
    (replies : s.link.replies = []) {r : DeliveryRecord} {rest : List DeliveryRecord} (records : s.delivery.records = r :: rest) :
    exec .noticeTransmit s = .next
      (if s.delivery.credits = 0 then s else (s.onDelivery Delivery.spendCredit).transmit .notice r.frame) := by
  rw [exec_noticeTransmit]
  split
  · next broke => exact onEvent_idle hs (by simp [State.noticeReady, broke])
  · next credit =>
    rw [onEvent_acts hs (by simp [State.noticeReady, free, boot, replies, records, Nat.one_le_iff_ne_zero.mpr credit]),
      State.beginNotice, records]

/-! ### What a frame sent whole does (R144, R145, R159, R162, R163) -/

theorem State.sending_of_tx {kind : TxKind} (h : s.link.tx = some ⟨kind, f⟩) : s.sending kind = true := by
  simp [State.sending, h]

theorem exec_bootSent_of_tx (hs : s.Open) (h : s.link.tx = some ⟨.boot, f⟩) : exec .bootSent s = .next s.endBoot :=
  onEvent_acts hs (State.sending_of_tx h)

/-- The reply leaves the list, unless it is the last one and a restart is pending. -/
theorem exec_replySent_of_tx (hs : s.Open) (h : s.link.tx = some ⟨.reply, f⟩) {r : Reply} {rest : List Reply}
    (replies : s.link.replies = r :: rest) (stays : s.link.restartPending = false ∨ rest ≠ []) :
    exec .replySent s = .next { s with link.tx := none, link.replies := rest } := by
  have goesOn : (s.link.restartPending && rest.isEmpty) = false := by
    rwa [Bool.and_eq_false_iff, List.isEmpty_eq_false_iff]
  rw [exec_replySent, onEvent_acts hs (State.sending_of_tx h)]
  simp only [State.endReply, State.withLink, replies, List.tail_cons, goesOn, Bool.false_eq_true, if_false]

/-- Folded counts become an OVERFLOW record at the tail. -/
theorem Delivery.offerOverflow_eq (d : Delivery) : d.offerOverflow = { d with
    records := if d.folded = Folded.zero then d.records else d.records ++ [.overflow d.folded], folded := Folded.zero } := by
  unfold Delivery.offerOverflow
  split
  · next none_folded => rw [← none_folded]
  · rfl

theorem exec_noticeSent_of_tx (hs : s.Open) (h : s.link.tx = some ⟨.notice, f⟩) {r : DeliveryRecord}
    {rest : List DeliveryRecord} (records : s.delivery.records = r :: rest) :
    exec .noticeSent s = .next { s with
      link.tx := none
      delivery.free := s.delivery.free + r.held
      delivery.records := if s.delivery.folded = Folded.zero then rest else rest ++ [.overflow s.delivery.folded]
      delivery.folded := Folded.zero } := by
  have removed : s.delivery.removeHead = { s.delivery with records := rest, free := s.delivery.free + r.held } := by
    rw [Delivery.removeHead, records]
  rw [exec_noticeSent, onEvent_acts hs (State.sending_of_tx h), State.endNotice, State.onDelivery, removed,
    Delivery.offerOverflow_eq]
  rfl

/-- Settles O52, row by row. -/
theorem transmitterSequence : Obligations.TransmitterSequence := by
  refine ⟨rfl, rfl, rfl, rfl, rfl, rfl, rfl, fun r => ?notice, fun s hs => ?rows⟩
  case notice =>
    cases r with
    | data | done | pass | overflow => rfl
    | event e =>
      cases e with
      | schedule | loss => rfl
      | station _ _ _ _ identity => cases identity <;> rfl
      | trunk _ _ fault => obtain _ | _ | _ := fault <;> rfl
  case rows =>
    refine ⟨exec_transmit_of_busy hs, fun free cause boot => ⟨?_, exec_transmit_of_boot hs boot⟩,
      fun free boot r rest replies =>
        ⟨exec_replyTransmit_of_free hs free boot replies, exec_noticeTransmit_of_reply hs replies⟩,
      fun free boot replies r rest records => exec_noticeTransmit_of_free hs free boot replies records,
      fun f sent => exec_bootSent_of_tx hs sent, fun f r rest sent replies => exec_replySent_of_tx hs sent replies,
      fun f r rest sent records => ?_⟩
    · rw [exec_bootTransmit_of_free hs free boot]
      cases cause <;> rfl
    · rw [exec_noticeSent_of_tx hs sent records]
      cases r <;> rfl

end Sys2Proof.Machine
end

section
/-! Frames on the host link: what the receiver makes of a frame's bytes, whole and character by character; and what a step is by
the front of the queue: O20 and O1. -/

namespace Sys2Proof.Machine

variable {i : Instr} {s t : State} {kind tag len b hi lo : Byte} {payload body : List Byte} {crc : Half}

/-! ### LEN and CRC (R152, R153) -/

/-- The two bytes of a 16-bit value give it back. -/
theorem append_halfBytes (h : Half) : h.extractLsb' 8 8 ++ h.extractLsb' 0 8 = h :=
  (BitVec.extractLsb'_append_extractLsb'_eq_extractLsb' rfl).trans BitVec.extractLsb'_eq_self

theorem lenLegal_iff : lenLegal len = true ↔ 2 ≤ len.toNat ∧ len ≠ 255 := by
  simp only [lenLegal, Bool.and_eq_true, decide_eq_true_eq, ne_eq, and_congr_right_iff]
  intro _
  bv_omega

/-- LEN counts KIND, TAG and the payload. -/
theorem lenByte_toNat (fits : payload.length ≤ 252) : (lenByte payload).toNat = payload.length + 2 := by
  rw [lenByte, BitVec.toNat_ofNat]
  omega

theorem lenLegal_lenByte (fits : payload.length ≤ 252) : lenLegal (lenByte payload) = true := by
  simp only [lenLegal, lenByte_toNat fits, Bool.and_eq_true, decide_eq_true_eq]
  omega

/-! ### Whole frames (R153, R156) -/

theorem wholeFrame_cons : wholeFrame len (kind :: tag :: payload) crc = some
    (if crc16 (len :: kind :: tag :: payload) = crc then requestOfKind kind tag payload
     else .crcError (kind :: tag :: payload) crc) := by
  unfold wholeFrame
  split <;> rfl

/-- The receiver on the bytes of one frame, whatever its CRC. -/
theorem receiveFrame_of_body (fits : payload.length ≤ 252) :
    receiveFrame (0xA5 :: (frameBody kind tag payload ++ halfBytes crc)) =
      wholeFrame (lenByte payload) (kind :: tag :: payload) crc := by
  have count : (kind :: tag :: payload).length = (lenByte payload).toNat := (lenByte_toNat fits).symm
  have bytes : frameBody kind tag payload ++ halfBytes crc =
      lenByte payload :: ((kind :: tag :: payload) ++ [crc.extractLsb' 8 8, crc.extractLsb' 0 8]) := rfl
  rw [bytes, receiveFrame, if_pos rfl]
  simp only [lenLegal_lenByte fits, if_true, List.take_left' count, List.drop_left' count, append_halfBytes]

/-- A well-formed good frame carries a KIND that names its row, and a payload that fits (R152, R165). -/
theorem requestFraming (i : Instr) : Laws.RequestFraming.Statement i := by
  cases i with
  | unknownKind kind tag p => exact Laws.RequestFraming.unknownKind kind tag p
  | hello | status | restart | credit | configure | start | stop | defineCircuit | dropCircuit | setOpen | adopt | revert
  | put | purge | readCircuit | admitStation | excludeStation | releaseStation | queryStation | transact | cancel
  | batchLoad | batchPreset | batchRun | batchAbort => exact Laws.RequestFraming.of_named rfl rfl rfl
  | _ => exact Laws.RequestFraming.of_frameless rfl

/-- Settles O20: LEN counts the body, the CRC agrees, and KIND names the row. -/
theorem requestFrameDecodes : Obligations.RequestFrameDecodes := by
  intro i frame wellFormed carried
  obtain ⟨⟨kind, tag, payload⟩, parts, rfl⟩ := Option.map_eq_some_iff.mp carried
  obtain ⟨named, fits⟩ := requestFraming i wellFormed kind tag payload parts
  have agrees : crc16 (lenByte payload :: kind :: tag :: payload) = crc16 (frameBody kind tag payload) := rfl
  change receiveFrame (frameBytes kind tag payload) = some i
  rw [frameBytes, receiveFrame_of_body fits, wholeFrame_cons, if_pos agrees, named]

/-! ### Frames byte by byte (R153) -/

/-- An illegal LEN ends its frame at once. -/
theorem frameEnd_of_illegal (illegal : lenLegal len = false) : frameEnd [len] = some (.formatError (.illegalLen len)) := by
  simp [frameEnd, illegal]

/-- A frame goes on until the second CRC byte. -/
theorem frameEnd_of_short (legal : lenLegal len = true) (short : body.length ≤ len.toNat + 1) :
    frameEnd (len :: body) = none := by
  have left : (body.drop len.toNat).length ≤ 1 := by rw [List.length_drop]; omega
  rw [frameEnd, if_pos legal]
  split
  · next two => simp [two] at left
  · rfl

theorem frameEnd_of_whole (legal : lenLegal len = true) (count : body.length = len.toNat) :
    frameEnd (len :: (body ++ [hi, lo])) = wholeFrame len body (hi ++ lo) := by
  rw [frameEnd, if_pos legal, List.drop_left' count, List.take_left' count]

/-! ### One step (log entry 1) -/

/-- What a moment leaves as it is. -/
theorem State.meet_frame (m : Moment) (s : State) : (s.meet m).sched = s.sched ∧ (s.meet m).roster = s.roster ∧
    (s.meet m).engine = s.engine ∧ (s.meet m).batch = s.batch ∧ (s.meet m).delivery = s.delivery ∧
    (s.meet m).draws = s.draws ∧ (s.meet m).moments = s.moments ∧
    (s.meet m).link = { s.link with receiver := (s.meet m).link.receiver } ∧
    (s.meet m).port = { s.port with
      tx := (s.meet m).port.tx, hit := (s.meet m).port.hit, badCells := (s.meet m).port.badCells } := by
  obtain same | ⟨r, received⟩ | ⟨k, -, counted⟩ | released := State.meet_cases m s
  · rw [same]; exact ⟨rfl, rfl, rfl, rfl, rfl, rfl, rfl, rfl, rfl⟩
  · rw [received]; exact ⟨rfl, rfl, rfl, rfl, rfl, rfl, rfl, rfl, rfl⟩
  · rw [counted]; exact ⟨rfl, rfl, rfl, rfl, rfl, rfl, rfl, rfl, rfl⟩
  · rw [released]; exact ⟨rfl, rfl, rfl, rfl, rfl, rfl, rfl, rfl, rfl⟩

/-- Settles O1: by the front of the queue, and then by the list of moments. -/
theorem stepRunsFrontCommand : Obligations.StepRunsFrontCommand := by
  refine ⟨fun c rest s front => step_command front, fun s empty none_left => step_idle empty none_left, fun s empty => ?_⟩
  cases moments : s.moments with
  | nil => exact ⟨s, step_idle empty moments, rfl, rfl, rfl, rfl, rfl, rfl, moments, rfl, rfl⟩
  | cons m rest => exact ⟨_, step_moment empty moments, State.meet_frame m (s.withMoments rest)⟩

end Sys2Proof.Machine
end

section
/-! Damaged frames and frames of unknown kind, as rows and character by character: O25. -/

namespace Sys2Proof.Machine

variable {s : State} {kind tag len b hi : Byte} {payload body gathered : List Byte} {rest : List Moment}

/-! ### Rows of frames refused or lost (R151, R153, R154, R156) -/

theorem exec_unknownKind_taken (hs : s.Takes) (wellFormed : (Instr.unknownKind kind tag payload).wellFormed = true) :
    exec (.unknownKind kind tag payload) s = .next (s.replied tag .unknownKind 0 []) := by
  obtain ⟨isOpen, taken⟩ := hs
  rw [exec_unknownKind, onEvent_acts isOpen wellFormed, taken]
  rfl

theorem exec_crcError_acts {crc : Half} (hs : s.Open) (wellFormed : (Instr.crcError body crc).wellFormed = true) :
    exec (.crcError body crc) s = .next { s with link.receiver := .hunting, link.crcErrors := satInc s.link.crcErrors } := by
  rw [exec_crcError, onEvent_acts hs wellFormed]
  rfl

theorem State.inFrame_iff : s.inFrame = true ↔ s.link.receiver ≠ .hunting := bne_iff_ne

theorem State.inFrame_of_hunting (hunting : s.link.receiver = .hunting) : s.inFrame = false :=
  bne_eq_false_iff_eq.mpr hunting

theorem exec_formatError_acts {cause : FormatCause} (hs : s.Open) (wellFormed : (Instr.formatError cause).wellFormed = true)
    (occasion : cause ≠ .character ∨ s.link.receiver ≠ .hunting) : exec (.formatError cause) s =
      .next { s with link.receiver := .hunting, link.formatErrors := satInc s.link.formatErrors } := by
  have occurs : formatErrorOccurs cause s = true := by
    cases cause with
    | illegalLen len => exact wellFormed
    | character => exact State.inFrame_iff.mpr (occasion.resolve_left fun ne => ne rfl)
  rw [exec_formatError, onEvent_acts hs occurs]
  rfl

theorem exec_interByteTimeout_acts (hs : s.Open) (inFrame : s.link.receiver ≠ .hunting) : exec .interByteTimeout s =
    .next { s with link.receiver := .hunting, link.timeouts := satInc s.link.timeouts } := by
  rw [exec_interByteTimeout, onEvent_acts hs (State.inFrame_iff.mpr inFrame)]
  rfl

/-- Outside a frame neither a broken character nor a gap is counted. -/
theorem exec_loss_of_hunting (hs : s.Open) (hunting : s.link.receiver = .hunting) :
    exec (.formatError .character) s = .next s ∧ exec .interByteTimeout s = .next s := by
  rw [exec_formatError, exec_interByteTimeout]
  exact ⟨onEvent_idle hs (State.inFrame_of_hunting hunting), onEvent_idle hs (State.inFrame_of_hunting hunting)⟩

/-! ### Characters (R151) -/

/-- Bit `k` of a character: the start bit, a data bit, or the stop bit. -/
theorem charBits_getLsbD (b : Byte) (k : Nat) : (charBits b).getLsbD k =
    if k < 1 then (0#1).getLsbD k else if k - 1 < 8 then b.getLsbD (k - 1) else (1#1).getLsbD (k - 1 - 8) := by
  have bits : (charBits b).getLsbD k = ((1#1 ++ b) ++ 0#1).getLsbD k := rfl
  rw [bits, BitVec.getLsbD_append, BitVec.getLsbD_append]

/-- A data bit of a character is a bit of its byte. -/
theorem charBits_getLsbD_succ (b : Byte) {k : Nat} (small : k < 8) : (charBits b).getLsbD (k + 1) = b.getLsbD k := by
  rw [charBits_getLsbD, if_neg (by omega), Nat.add_sub_cancel, if_pos small]

section
variable (awake : s.held = false) (empty : s.pending = [])
include awake empty

/-- A character on HRX brings its byte to the receiver, and the row that has come about joins the queue. -/
theorem step_char (char : s.moments = .hrxChar (charBits b) :: rest) : step s = .next { s with
    moments := rest
    link.receiver := (s.link.receiver.take b).1
    pending := (s.link.receiver.take b).2.toList } := by
  have heard : (s.withMoments rest).meet (.hrxChar (charBits b)) = (s.withMoments rest).received (s.link.receiver.take b) := by
    have awake : (s.withMoments rest).held = false := awake
    simp [State.meet, awake, State.receiveChar]
  rw [step_moment empty char, heard, State.received_eq, State.withMoments_pending, empty]
  rfl

/-- A receiver that hunts takes A5h as the start of a frame, and discards all else (R153). -/
theorem step_char_of_hunting (char : s.moments = .hrxChar (charBits b) :: rest) (hunting : s.link.receiver = .hunting) :
    step s = .next { s with moments := rest, link.receiver := if b = 0xA5 then .inFrame [] else .hunting } := by
  rw [step_char awake empty char, hunting, Receiver.take, Option.toList_none, empty]

/-- In a frame the receiver gathers the byte, and the bytes may end the frame (R153). -/
theorem step_char_of_inFrame (char : s.moments = .hrxChar (charBits b) :: rest)
    (inFrame : s.link.receiver = .inFrame gathered) : step s = .next { s with
      moments := rest
      link.receiver := .inFrame (gathered ++ [b])
      pending := (frameEnd (gathered ++ [b])).toList } := by
  rw [step_char awake empty char, inFrame, Receiver.take]

omit awake in
/-- What is cut off is a frame that the receiver is in. -/
theorem State.received_if_inFrame (row : Instr) : (if (s.withMoments rest).inFrame
    then (s.withMoments rest).received (s.link.receiver, some row) else s.withMoments rest) =
      { s with moments := rest, pending := if s.link.receiver = .hunting then [] else [row] } := by
  by_cases hunting : s.link.receiver = .hunting
  · rw [if_neg (Bool.eq_false_iff.mp (State.inFrame_of_hunting (s := s.withMoments rest) hunting)), if_pos hunting, ← empty]
    rfl
  · rw [if_pos ((State.inFrame_iff (s := s.withMoments rest)).mpr hunting), if_neg hunting, State.received_eq,
      State.withMoments_pending, empty]
    rfl

/-- A character whose stop bit is low ends a frame that the receiver is in (R151, R153). -/
theorem step_brokenChar {c : BitVec 10} (start : c.getLsbD 0 = false) (broken : c.getLsbD 9 = false)
    (char : s.moments = .hrxChar c :: rest) : step s = .next { s with
      moments := rest, pending := if s.link.receiver = .hunting then [] else [.formatError .character] } := by
  have starts : charStarts c = true := by rw [charStarts, start]; rfl
  have breaks : charBroken c = true := by rw [charBroken, broken]; rfl
  have awake : (s.withMoments rest).held = false := awake
  rw [step_moment empty char, ← State.received_if_inFrame empty]
  simp only [State.meet, awake, State.receiveChar, starts, breaks, Bool.false_eq_true, if_false, if_true]
  rfl

/-- A gap of more than 2 ms cuts off a frame that the receiver is in (R154). -/
theorem step_gap (gap : s.moments = .hrxGap :: rest) : step s = .next { s with
    moments := rest, pending := if s.link.receiver = .hunting then [] else [.interByteTimeout] } := by
  have awake : (s.withMoments rest).held = false := awake
  rw [step_moment empty gap, ← State.received_if_inFrame empty]
  simp only [State.meet, awake, State.receiveGap, Bool.false_eq_true, if_false]
  rfl

end

/-! ### The end of a frame, byte by byte (R153) -/

theorem frameEnd_of_second_crc (legal : lenLegal len = true) (count : payload.length + 2 = len.toNat) :
    frameEnd ((len :: kind :: tag :: (payload ++ [hi])) ++ [b]) = some
      (if crc16 (len :: kind :: tag :: payload) = hi ++ b then requestOfKind kind tag payload
       else .crcError (kind :: tag :: payload) (hi ++ b)) := by
  have bytes : (len :: kind :: tag :: (payload ++ [hi])) ++ [b] = len :: ((kind :: tag :: payload) ++ [hi, b]) := by simp
  have counted : (kind :: tag :: payload).length = len.toNat := count
  rw [bytes, frameEnd_of_whole legal counted, wholeFrame_cons]

/-- Settles O25: the rows by their occasions, and each character by what the receiver has gathered. -/
theorem badFramesAreCountedOrRefused : Obligations.BadFramesAreCountedOrRefused := by
  refine ⟨fun kind tag payload s hs wellFormed => exec_unknownKind_taken hs wellFormed,
    fun body crc s hs wellFormed => exec_crcError_acts hs wellFormed,
    fun cause s hs wellFormed occasion => exec_formatError_acts hs wellFormed occasion,
    fun s hs inFrame => exec_interByteTimeout_acts hs inFrame, fun s hs hunting => exec_loss_of_hunting hs hunting,
    fun kind tag payload crc fits wrong => ?wrongCrc,
    fun b => ⟨charBits_getLsbD b 0, charBits_getLsbD b 9, fun k small => charBits_getLsbD_succ b small⟩,
    fun s rest awake empty => ⟨fun b char => ⟨fun hunting => step_char_of_hunting awake empty char hunting,
      fun gathered inFrame => ?inFrame⟩, fun c start broken char => step_brokenChar awake empty start broken char,
      fun gap => step_gap awake empty gap⟩⟩
  case wrongCrc =>
    have disagrees : crc16 (lenByte payload :: kind :: tag :: payload) ≠ crc := wrong.symm
    rw [receiveFrame_of_body fits, wholeFrame_cons, if_neg disagrees]
  case inFrame =>
    have taken := step_char_of_inFrame awake empty char inFrame
    refine ⟨fun first illegal => ?_, fun first least most => ?_, fun len after first least most => ?_⟩
    · subst first
      have illegal : lenLegal b = false := by
        rw [Bool.eq_false_iff, ne_eq, lenLegal_iff, not_and_or, not_le, not_not]
        exact illegal
      rw [taken, List.nil_append, frameEnd_of_illegal illegal, Option.toList_some]
    · subst first
      rw [taken, List.nil_append, frameEnd_of_short (lenLegal_iff.mpr ⟨least, most⟩) (Nat.zero_le _), Option.toList_none]
    · subst first
      have legal := lenLegal_iff.mpr ⟨least, most⟩
      refine ⟨fun short => ?_, fun kind tag payload hi bytes count => ?_⟩
      · have short : (after ++ [b]).length ≤ len.toNat + 1 := by
          rw [List.length_append]
          exact Nat.add_le_add_right short 1
        rw [taken, List.cons_append, frameEnd_of_short legal short, Option.toList_none]
      · subst bytes
        rw [taken, frameEnd_of_second_crc legal count, Option.toList_some]

end Sys2Proof.Machine
end

section
/-! HELLO, STATUS and RESTART: O26, O27 and O29. -/

namespace Sys2Proof.Machine

variable {s : State} {tag : Byte}

/-! ### Replies as the statements write them -/

theorem State.pushReply_okData (data : List Byte) : s.pushReply tag (.okData data) = s.replied tag .ok 0 data := rfl

/-! ### HELLO (R160) -/

/-- The identity and the capacities, byte by byte. -/
theorem helloData_eq : helloData = [0x7A, 0x31, 0x41, 0x20, 0x02, 32, 30, 16, 64, 0x02, 0x00, 128, 24, 15] := by decide

/-- Settles O26. -/
theorem helloAnswers : Obligations.HelloAnswers := by
  intro tag s hs
  rw [exec_hello, show fixedLength 0 [] = true from rfl, takeRequest_taken hs, ownHello, helloData_eq,
    State.pushReply_okData]

/-! ### STATUS (R161) -/

theorem ownStatus_of_illegal {flag : Byte} (illegal : flag ≠ 0 ∧ flag ≠ 1) :
    ownStatus [flag] s = (s, .refuseWith .badField 1) := by
  have flagged : 1 < numAt [flag] 0 := by
    have value : numAt [flag] 0 = flag.toNat := rfl
    rw [value]
    bv_omega
  rw [ownStatus, firstFault, decide_eq_true flagged, if_pos rfl, checkFields]

theorem ownStatus_of_legal {flag : Byte} (legal : flag = 0 ∨ flag = 1) :
    ownStatus [flag] s = (if flag = 1 then s.clearCounters else s, .okData (statusData s)) := by
  obtain rfl | rfl := legal <;> rfl

theorem State.clearCounters_eq (s : State) : s.clearCounters = { s with
    port.badCells := 0, port.silentSlots := 0, port.collisions := 0, engine.strays := 0, link.timeouts := 0
    link.crcErrors := 0, link.formatErrors := 0, link.backlog := 0 } := rfl

/-- Settles O27: the flag is checked, the data is formed, then the counters are cleared. -/
theorem statusReportsThenClears : Obligations.StatusReportsThenClears := by
  refine ⟨rfl, fun _ _ => rfl, fun tag flag s hs => ?_⟩
  rw [exec_status, show fixedLength 1 [flag] = true from rfl, takeRequest_taken hs]
  split
  · next illegal => rw [ownStatus_of_illegal illegal, State.pushReply_refuseWith]
  · next legal =>
    have legal : flag = 0 ∨ flag = 1 := by
      rwa [not_and_or, not_not, not_not] at legal
    have held : s.delivery.batchRes.toNat = if s.delivery.batchRes then 1 else 0 := by cases s.delivery.batchRes <;> rfl
    rw [ownStatus_of_legal legal, State.pushReply_okData, State.clearCounters_eq]
    simp only [statusData, flagByte, addrByte, halfOf, byteOf, Folded.bytes, held, List.append_assoc]

/-! ### RESTART (R162, R164) -/

/-- The last reply of the list has been sent with a restart pending. -/
theorem exec_replySent_of_last (hs : s.Open) {f : List Byte} (sent : s.link.tx = some ⟨.reply, f⟩) {r : Reply}
    (last : s.link.replies = [r]) (restart : s.link.restartPending = true) : exec .replySent s =
      .next (s.resetBlocks s.link.afterRestart) := by
  rw [exec_replySent, onEvent_acts hs (State.sending_of_tx sent)]
  simp only [State.endReply, State.withLink, last, List.tail_cons, restart, List.isEmpty_nil, Bool.and_self, if_true]
  rfl

/-- Settles O29. -/
theorem restartThenSoftReset : Obligations.RestartThenSoftReset := by
  refine ⟨fun tag s hs => ?_, fun f r s hs sent last restart => ?_⟩
  · rw [exec_restart, show fixedLength 0 [] = true from rfl, takeRequest_taken hs]
    rfl
  · rw [exec_replySent_of_last hs sent last restart]
    rfl

end Sys2Proof.Machine
end

section
/-! What becomes of every request: it is taken, and answered with its tag, a refusal changing nothing else; or it is discarded
and counted: O22 and O23. -/

namespace Sys2Proof.Machine

variable {i : Instr} {s : State} {kind tag : Byte} {payload : List Byte}

/-! ### Refusals (R156) -/

/-- An answer that carries no data and leaves the state as it is, if it is a refusal. -/
def RefusesCleanly (s : State) (x : State × Answer) : Prop :=
  x.2.result.success = false → x.2.data = [] ∧ x.1 = s

namespace RefusesCleanly

theorem granted {x : State × Answer} (success : x.2.result.success = true) : RefusesCleanly s x :=
  fun refused => nomatch success.symm.trans refused

theorem unchanged {a : Answer} (bare : a.data = []) : RefusesCleanly s (s, a) := fun _ => ⟨bare, rfl⟩

theorem refuse (r : ResultCode) : RefusesCleanly s (s, .refuse r) := unchanged rfl

theorem refuseWith (r : ResultCode) (detail : Nat) : RefusesCleanly s (s, .refuseWith r detail) := unchanged rfl

theorem checkFields {fault : Option Nat} {go : State → State × Answer} (h : RefusesCleanly s (go s)) :
    RefusesCleanly s (checkFields fault go s) := by
  cases fault with
  | none => exact h
  | some n => exact refuseWith _ _

theorem editDraft {go : State → State × Answer} (h : RefusesCleanly s (go s)) : RefusesCleanly s (editDraft go s) := by
  unfold Machine.editDraft
  split
  · exact refuse _
  · exact h

theorem onLiveOut {id : CircuitId} {go : LiveCircuit → State → State × Answer} (h : ∀ c, RefusesCleanly s (go c s)) :
    RefusesCleanly s (onLiveOut id go s) := by
  unfold Machine.onLiveOut
  split
  · exact refuse _
  · split
    · exact h _
    · exact refuseWith _ _

/-! ### Owners of requests -/

theorem configure (p : List Byte) : RefusesCleanly s (ownConfigure p s) := by
  refine checkFields ?_
  unfold configureByState
  split
  · exact refuse _
  · exact refuse _
  · exact refuse _
  · exact granted rfl
  · split
    · exact refuseWith _ _
    · exact granted rfl

theorem start : RefusesCleanly s (ownStart s) := by
  unfold ownStart
  split
  · split
    · exact granted rfl
    · exact refuse _
  all_goals exact refuse _

theorem stop : RefusesCleanly s (ownStop s) := by
  unfold ownStop
  split
  · exact refuse _
  all_goals exact granted rfl

theorem dropCircuit (p : List Byte) : RefusesCleanly s (ownDropCircuit p s) := by
  refine checkFields (editDraft ?_)
  split
  · exact refuse _
  · exact granted rfl

theorem adopt : RefusesCleanly s (ownAdopt s) := by
  have validated : ∀ pending, RefusesCleanly s (adoptValidated pending s) := fun pending => by
    unfold adoptValidated
    split
    · exact refuseWith _ _
    · split
      · exact granted rfl
      · exact granted rfl
  unfold ownAdopt
  split
  · exact refuse _
  all_goals exact editDraft (validated _)

theorem put (p : List Byte) : RefusesCleanly s (ownPut p s) := by
  refine checkFields (onLiveOut fun c => ?_)
  unfold putUnitOn
  split
  · exact refuseWith _ _
  · split
    · exact refuse _
    · split
      · exact granted rfl
      · exact refuse _

theorem readCircuit (p : List Byte) : RefusesCleanly s (ownReadCircuit p s) := by
  refine checkFields ?_
  unfold readCircuitOn
  split
  · exact refuse _
  · exact granted rfl

theorem admitStation (p : List Byte) : RefusesCleanly s (ownAdmit p s) := by
  refine checkFields ?_
  simp only [admitOn]
  split
  · exact granted rfl
  · exact granted rfl
  · exact granted rfl
  all_goals exact refuse _

theorem releaseStation (p : List Byte) : RefusesCleanly s (ownRelease p s) := by
  refine checkFields ?_
  simp only [releaseOn]
  split
  · exact granted rfl
  · exact refuse _

theorem transact (tag : Byte) (p : List Byte) : RefusesCleanly s (ownTransact tag p s) := by
  have resources : ∀ req, RefusesCleanly s (transactByResources tag req s) := fun req => by
    unfold transactByResources
    split
    · exact refuse _
    · split
      · exact refuse _
      · split
        · exact granted rfl
        · exact refuse _
  refine checkFields ?_
  unfold transactByState
  split
  · exact refuse _
  · exact refuse _
  all_goals exact resources _

theorem cancel (p : List Byte) : RefusesCleanly s (ownCancel p s) := by
  unfold ownCancel cancelTag
  split
  · exact refuse _
  · split
    · exact granted rfl
    · exact granted rfl
    · exact refuse _

theorem batchLoad (tag : Byte) (p : List Byte) : RefusesCleanly s (ownBatchLoad tag p s) := by
  have idle : ∀ l count, RefusesCleanly s (batchLoadIdle tag l count s) := fun l count => by
    cases count with
    | none => exact granted rfl
    | some k =>
      simp only [batchLoadIdle, loadAndRun]
      split
      · exact refuse _
      · split
        · exact refuse _
        · exact granted rfl
  refine checkFields ?_
  unfold batchLoadByState
  split
  · exact refuse _
  · exact idle _ _
  · exact idle _ _

theorem batchRun (tag : Byte) (p : List Byte) : RefusesCleanly s (ownBatchRun tag p s) := by
  refine checkFields ?_
  unfold batchRunByState
  split
  · exact refuse _
  · exact refuse _
  · split
    · exact refuse _
    · split
      · exact refuse _
      · exact granted rfl

theorem batchAbort : RefusesCleanly s (ownBatchAbort s) := by
  have aborted : ∀ l r, RefusesCleanly s (abortRun l r s) := fun l r => by
    unfold abortRun
    split
    · exact granted rfl
    · split
      · unfold abortWaiting
        split <;> exact granted rfl
      · split
        · unfold abortItem
          split <;> exact granted rfl
        · exact granted rfl
  unfold ownBatchAbort
  split
  · exact refuse _
  · exact refuse _
  · exact aborted _ _

end RefusesCleanly

/-! ### The form of every request (R155 to R157) -/

/-- A row that takes requests by this owner, who leaves the replies to the row, and refuses cleanly. -/
structure RequestRow (i : Instr) (tag : Byte) (lengthOk : Bool) (owner : State → State × Answer) : Prop where
  form : ∀ s, exec i s = takeRequest tag lengthOk owner s
  replies : ∀ s, (owner s).1.link.replies = s.link.replies
  refusal : ∀ s, RefusesCleanly s (owner s)

theorem RequestRow.of_work {lengthOk : Bool} {owner : State → State × Answer}
    (form : ∀ s, exec i s = takeRequest tag lengthOk owner s) (work : ∀ s, Work s (owner s).1)
    (refusal : ∀ s, RefusesCleanly s (owner s)) : RequestRow i tag lengthOk owner :=
  ⟨form, fun s => (work s).orderly.replies, refusal⟩

theorem ownCredit_replies (p : List Byte) (s : State) : (ownCredit p s).1.link.replies = s.link.replies :=
  checkFields_rec (P := fun u => u.link.replies = s.link.replies) rfl fun _ => rfl

/-- Every good frame is a request row, or of unknown kind. -/
theorem requestRow_or_unknownKind (parts : requestParts i = some (kind, tag, payload)) :
    (∃ lengthOk owner, RequestRow i tag lengthOk owner) ∨ i = .unknownKind kind tag payload := by
  cases i <;> cases parts
  case unknownKind => exact .inr rfl
  case hello => exact .inl ⟨_, _, .of_work (exec_hello · tag payload) (fun u => .refl u) fun _ => .granted rfl⟩
  case status =>
    refine .inl ⟨_, _, .of_work (exec_status · tag payload) (fun u => ?_) fun _ => .checkFields (.granted rfl)⟩
    exact ownStatus_work u payload
  case restart =>
    exact .inl ⟨_, _, .of_work (exec_restart · tag payload) (fun u => u.withLink_work rfl rfl) fun _ => .granted rfl⟩
  case credit =>
    exact .inl ⟨_, _, (exec_credit · tag payload), ownCredit_replies payload, fun _ => .checkFields (.granted rfl)⟩
  case configure =>
    refine .inl ⟨_, _, .of_work (exec_configure · tag payload) (fun u => ?_) fun _ => .configure payload⟩
    exact ownConfigure_work u payload
  case start => exact .inl ⟨_, _, .of_work (exec_start · tag payload) ownStart_work fun _ => .start⟩
  case stop => exact .inl ⟨_, _, .of_work (exec_stop · tag payload) ownStop_work fun _ => .stop⟩
  case defineCircuit =>
    refine .inl ⟨_, _, .of_work (exec_defineCircuit · tag payload) (fun u => ?_)
      fun _ => .checkFields (.editDraft (.granted rfl))⟩
    exact checkFields_rec (.refl u) fun _ => editDraft_rec (.refl u) fun _ => u.setDraft_work _
  case dropCircuit =>
    refine .inl ⟨_, _, .of_work (exec_dropCircuit · tag payload) (fun u => ?_) fun _ => .dropCircuit payload⟩
    exact ownDropCircuit_work u payload
  case setOpen =>
    refine .inl ⟨_, _, .of_work (exec_setOpen · tag payload) (fun u => ?_)
      fun _ => .checkFields (.editDraft (.granted rfl))⟩
    exact checkFields_rec (.refl u) fun _ => editDraft_rec (.refl u) fun _ => u.setDraft_work _
  case adopt => exact .inl ⟨_, _, .of_work (exec_adopt · tag payload) ownAdopt_work fun _ => .adopt⟩
  case revert =>
    refine .inl ⟨_, _, .of_work (exec_revert · tag payload) (fun u => ?_) fun _ => .editDraft (.granted rfl)⟩
    exact editDraft_rec (.refl u) fun _ => u.setDraft_work _
  case put => exact .inl ⟨_, _, .of_work (exec_put · tag payload) (fun u => ownPut_work u payload) fun _ => .put payload⟩
  case purge =>
    refine .inl ⟨_, _, .of_work (exec_purge · tag payload) (fun u => ?_)
      fun _ => .checkFields (.onLiveOut fun _ => .granted rfl)⟩
    exact ownPurge_work u payload
  case readCircuit =>
    refine .inl ⟨_, _, .of_work (exec_readCircuit · tag payload) (fun u => ?_) fun _ => .readCircuit payload⟩
    exact ownReadCircuit_work u payload
  case admitStation =>
    refine .inl ⟨_, _, .of_work (exec_admitStation · tag payload) (fun u => ?_) fun _ => .admitStation payload⟩
    exact ownAdmit_work u payload
  case excludeStation =>
    refine .inl ⟨_, _, .of_work (exec_excludeStation · tag payload) (fun u => ?_) fun _ => .checkFields (.granted rfl)⟩
    exact checkFields_rec (.refl u) fun _ => u.excludeNow_work _
  case releaseStation =>
    refine .inl ⟨_, _, .of_work (exec_releaseStation · tag payload) (fun u => ?_) fun _ => .releaseStation payload⟩
    exact ownRelease_work u payload
  case queryStation =>
    refine .inl ⟨_, _, .of_work (exec_queryStation · tag payload) (fun u => ?_) fun _ => .checkFields (.granted rfl)⟩
    exact checkFields_rec (.refl u) fun _ => .refl u
  case transact =>
    refine .inl ⟨_, _, .of_work (exec_transact · tag payload) (fun u => ?_) fun _ => .transact tag payload⟩
    exact ownTransact_work u tag payload
  case cancel =>
    exact .inl ⟨_, _, .of_work (exec_cancel · tag payload) (fun u => ownCancel_work u payload) fun _ => .cancel payload⟩
  case batchLoad =>
    refine .inl ⟨_, _, .of_work (exec_batchLoad · tag payload) (fun u => ?_) fun _ => .batchLoad tag payload⟩
    exact ownBatchLoad_work u tag payload
  case batchPreset =>
    refine .inl ⟨_, _, .of_work (exec_batchPreset · tag payload) (fun u => ?_) fun _ => .checkFields (.granted rfl)⟩
    exact checkFields_rec (.refl u) fun _ => .of_eq rfl rfl rfl rfl rfl rfl
  case batchRun =>
    refine .inl ⟨_, _, .of_work (exec_batchRun · tag payload) (fun u => ?_) fun _ => .batchRun tag payload⟩
    exact ownBatchRun_work u tag payload
  case batchAbort => exact .inl ⟨_, _, .of_work (exec_batchAbort · tag payload) ownBatchAbort_work fun _ => .batchAbort⟩

/-! ### Requests that are taken (R155 to R157) -/

theorem State.pushReply_eq_replied (a : Answer) : s.pushReply tag a = s.replied tag a.result a.detail.toNat a.data := by
  rw [State.replied, BitVec.ofNat_toNat, BitVec.setWidth_eq]
  rfl

/-- Settles O22: by the form of the row, and for a frame of unknown kind by its refusal. -/
theorem refusedRequestChangesNothing : Obligations.RefusedRequestChangesNothing := by
  intro i kind tag payload s wellFormed parts hs
  obtain ⟨lengthOk, owner, form, replies, refusal⟩ | rfl := requestRow_or_unknownKind parts
  · cases lengthOk with
    | true =>
      refine ⟨_, (owner s).2.result, (owner s).2.detail, (owner s).2.data, (form s).trans (takeRequest_taken hs), ?_,
        fun refused => ?_⟩
      · rw [State.pushReply_replies, replies]
      · obtain ⟨bare, same⟩ := refusal s refused
        rw [State.pushReply_eq_replied, bare, same]
        exact ⟨rfl, rfl⟩
    | false => exact ⟨_, .badLength, 0, [], (form s).trans (takeRequest_badLength hs), rfl, fun _ => ⟨rfl, rfl⟩⟩
  · exact ⟨_, .unknownKind, 0, [], exec_unknownKind_taken hs wellFormed, rfl, fun _ => ⟨rfl, rfl⟩⟩

/-! ### Requests that are discarded (R155, R162) -/

theorem State.backlogged_iff : s.backlogged = true ↔ s.link.restartPending = true ∨ 4 ≤ s.link.replies.length := by
  rw [State.backlogged, Bool.or_eq_true, decide_eq_true_iff]
  rfl

/-- Settles O23: by the form of the row. -/
theorem backlogDiscardsGoodFrames : Obligations.BacklogDiscardsGoodFrames := by
  intro i s wellFormed good hs waiting
  have backlogged := State.backlogged_iff.mpr waiting
  obtain parts | rfl := good
  · obtain ⟨⟨kind, tag, payload⟩, parts⟩ := Option.isSome_iff_exists.mp parts
    obtain ⟨lengthOk, owner, form, -, -⟩ | rfl := requestRow_or_unknownKind parts
    · exact (form s).trans (takeRequest_backlogged hs backlogged)
    · rw [exec_unknownKind, onEvent_acts hs wellFormed, if_pos backlogged]
      rfl
  · exact onEvent_acts hs backlogged

end Sys2Proof.Machine
end

section
/-! The formats of messages and cells: the fields of a cell header, and the length checks of requests: O21 and O24. -/

namespace Sys2Proof.Machine

/-! ### The header of a cell (R171) -/

section
variable (kind : BitVec 4) (addr : BitVec 5) (token : Token) (flags : BitVec 3)

/-- The upper part of a joined word counts in units of the lower part's range. -/
theorem toNat_append_eq_add {m n : Nat} (hi : BitVec m) (lo : BitVec n) :
    (hi ++ lo).toNat = hi.toNat * 2 ^ n + lo.toNat := by
  rw [BitVec.toNat_append, ← Nat.shiftLeft_add_eq_or_of_lt lo.isLt, Nat.shiftLeft_eq]

@[simp] theorem headerKind_packHeader : headerKind (packHeader kind addr token flags) = kind := by
  rw [headerKind, packHeader, BitVec.extractLsb'_append_eq_of_le (by decide),
    BitVec.extractLsb'_append_eq_of_le (by decide), BitVec.extractLsb'_append_eq_of_le (by decide)]
  exact BitVec.extractLsb'_eq_self

@[simp] theorem headerAddr_packHeader : headerAddr (packHeader kind addr token flags) = addr := by
  rw [headerAddr, packHeader, BitVec.extractLsb'_append_eq_of_le (by decide),
    BitVec.extractLsb'_append_eq_of_le (by decide), BitVec.extractLsb'_append_eq_of_add_le (by decide)]
  exact BitVec.extractLsb'_eq_self

@[simp] theorem headerToken_packHeader : headerToken (packHeader kind addr token flags) = token := by
  rw [headerToken, packHeader, BitVec.extractLsb'_append_eq_of_le (by decide),
    BitVec.extractLsb'_append_eq_of_add_le (by decide)]
  exact BitVec.extractLsb'_eq_self

theorem packHeader_toNat : (packHeader kind addr token flags).toNat =
    kind.toNat * 4096 + addr.toNat * 128 + token.toNat * 8 + flags.toNat := by
  rw [packHeader, toNat_append_eq_add, toNat_append_eq_add, toNat_append_eq_add]
  omega

end

/-- Settles O21: each field is the part of the joined word that its bits cut out. -/
theorem cellHeaderFields : Obligations.CellHeaderFields := fun kind addr token flags =>
  ⟨headerKind_packHeader kind addr token flags, headerAddr_packHeader kind addr token flags,
    headerToken_packHeader kind addr token flags, packHeader_toNat kind addr token flags⟩

/-! ### Requests of fixed layout (R166) -/

variable {s : State} {tag policy count : Byte} {payload : List Byte}

/-- The requests of fixed layout with their payload lengths (Table 9.1). -/
def fixedLayoutRows : List ((Byte → List Byte → Instr) × Nat) :=
  [(Instr.hello, 0), (.restart, 0), (.start, 0), (.stop, 0), (.adopt, 0), (.revert, 0), (.batchAbort, 0), (.status, 1),
    (.credit, 1), (.configure, 8), (.defineCircuit, 12), (.dropCircuit, 1), (.purge, 1), (.readCircuit, 2),
    (.admitStation, 2), (.excludeStation, 1), (.releaseStation, 1), (.queryStation, 1), (.cancel, 1), (.batchPreset, 1),
    (.batchRun, 1)]

theorem exec_fixedLayout : ∀ row ∈ fixedLayoutRows,
    ∃ owner, exec (row.1 tag payload) s = takeRequest tag (fixedLength row.2 payload) owner s := by
  simp only [fixedLayoutRows, List.forall_mem_cons]
  exact ⟨⟨_, exec_hello ..⟩, ⟨_, exec_restart ..⟩, ⟨_, exec_start ..⟩, ⟨_, exec_stop ..⟩, ⟨_, exec_adopt ..⟩,
    ⟨_, exec_revert ..⟩, ⟨_, exec_batchAbort ..⟩, ⟨_, exec_status ..⟩, ⟨_, exec_credit ..⟩, ⟨_, exec_configure ..⟩,
    ⟨_, exec_defineCircuit ..⟩, ⟨_, exec_dropCircuit ..⟩, ⟨_, exec_purge ..⟩, ⟨_, exec_readCircuit ..⟩,
    ⟨_, exec_admitStation ..⟩, ⟨_, exec_excludeStation ..⟩, ⟨_, exec_releaseStation ..⟩, ⟨_, exec_queryStation ..⟩,
    ⟨_, exec_cancel ..⟩, ⟨_, exec_batchPreset ..⟩, ⟨_, exec_batchRun ..⟩, fun _ none_left => nomatch none_left⟩

theorem fixedLength_eq_false {n : Nat} (wrong : payload.length ≠ n) : fixedLength n payload = false :=
  Bool.eq_false_iff.mpr fun passes => wrong (fixedLength_length passes)

/-! ### Requests whose length follows a count (R167) -/

theorem putLength_eq_false (wrong : payload.length ∉ [9, 17, 25, 33]) : putLength payload = false := by
  refine Bool.eq_false_iff.mpr fun passes => wrong ?_
  simpa only [putLength, Bool.or_eq_true, beq_iff_eq, or_assoc, List.mem_cons, List.not_mem_nil, or_false] using passes

theorem setOpenLength_eq_false (wrong : ∀ n rest, payload = n :: rest → rest.length ≠ n.toNat) :
    setOpenLength payload = false := by
  cases payload with
  | nil => rfl
  | cons n rest => simp [setOpenLength, numAt, byteAt, wrong n rest rfl]

theorem transactLength_eq_false
    (wrong : ∀ st ac hi lo n rest, payload = st :: ac :: hi :: lo :: n :: rest → rest.length ≠ n.toNat) :
    transactLength payload = false := by
  match payload with
  | [] | [_] | [_, _] | [_, _, _] | [_, _, _, _] => rfl
  | st :: ac :: hi :: lo :: n :: rest => simp [transactLength, numAt, byteAt, wrong st ac hi lo n rest rfl]

/-! ### The walk of BATCH_LOAD that fails (R167) -/

section
variable {m n : Nat} {bs rest left : List Byte} {items : List (List Byte)}

/-- The walk needs more bytes than the frame holds where no item begins. -/
theorem walkItems_succ_eq_none (noItem : ∀ item more, bs = item ++ more → ¬ CarriesItem item) :
    walkItems (n + 1) bs = none := by
  unfold walkItems
  split
  next st ac hi lo len rest =>
    have short : ¬ len.toNat ≤ rest.length := fun enough =>
      noItem (st :: ac :: hi :: lo :: len :: rest.take len.toNat) (rest.drop len.toNat)
        (by simp only [List.cons_append, List.take_append_drop])
        ⟨st, ac, hi, lo, len, _, rfl, List.length_take_of_le enough⟩
    exact if_neg short
  next => rfl

/-- A walk fails where it fails after its first items. -/
theorem walkItems_add_eq_none {raw : List RawItem} (walked : walkItems m bs = some (raw, rest))
    (stuck : walkItems n rest = none) : walkItems (m + n) bs = none := by
  induction m generalizing bs raw with
  | zero =>
    cases walked
    rwa [Nat.zero_add]
  | succ m ih =>
    rw [Nat.succ_add]
    unfold walkItems at walked ⊢
    split at walked
    next =>
      split at walked
      next enough =>
        split at walked
        next tail more further =>
          cases walked
          simp only [if_pos enough, ih further]
        next => cases walked
      next => cases walked
    next => cases walked

theorem batchWalk_eq_none (carries : ∀ item ∈ items, CarriesItem item) (missing : items.length < count.toNat)
    (noItem : ∀ item more, left = item ++ more → ¬ CarriesItem item) :
    batchWalk (policy :: count :: (items.flatten ++ left)) = none := by
  obtain ⟨k, counted⟩ := Nat.exists_eq_add_of_lt missing
  have stuck : walkItems (items.length + (k + 1)) (items.flatten ++ left) = none :=
    walkItems_add_eq_none (walkItems_flatten carries left) (walkItems_succ_eq_none noItem)
  rwa [← Nat.add_assoc, ← counted] at stuck

theorem batchLoadLength_eq_false_of_short (short : payload.length < 2) : batchLoadLength payload = false := by
  rw [batchLoadLength, decide_eq_false (Nat.not_le_of_lt short), Bool.false_and, Bool.false_and]

theorem batchLoadLength_eq_false_of_walk (stuck : batchWalk payload = none) : batchLoadLength payload = false := by
  rw [batchLoadLength, stuck, Bool.and_false]

theorem batchLoadLength_eq_false_of_left {raw : List RawItem} (walked : batchWalk payload = some (raw, left))
    (more : 2 ≤ left.length) : batchLoadLength payload = false := by
  simp only [batchLoadLength, walked, decide_eq_false (Nat.not_le_of_lt more), Bool.and_false]

end

/-! ### Requests of a wrong length (R166, R167) -/

theorem exec_wrongLength {i : Instr} {lengthOk : Bool} {owner : State → State × Answer}
    (form : exec i s = takeRequest tag lengthOk owner s) (hs : s.Takes) (fails : lengthOk = false) :
    exec i s = .next (s.replied tag .badLength 0 []) := by
  rw [form, fails, takeRequest_badLength hs]
  rfl

/-- Settles O24: each row takes requests by its own length check, which fails. -/
theorem payloadLengthsChecked : Obligations.PayloadLengthsChecked := by
  refine ⟨?fixed, ?short, ?walk, ?counted⟩
  case fixed =>
    intro row length tag payload s mem hs wrong
    obtain ⟨owner, form⟩ := exec_fixedLayout (s := s) (tag := tag) (payload := payload) (row, length) mem
    exact exec_wrongLength form hs (fixedLength_eq_false wrong)
  case short =>
    intro tag payload s hs short
    exact exec_wrongLength (exec_batchLoad ..) hs (batchLoadLength_eq_false_of_short short)
  case walk =>
    intro tag policy count items left s hs carries _ disagrees
    refine exec_wrongLength (exec_batchLoad ..) hs ?_
    obtain ⟨counted, more⟩ | ⟨missing, noItem⟩ := disagrees
    · exact batchLoadLength_eq_false_of_left (batchWalk_eq carries counted) more
    · exact batchLoadLength_eq_false_of_walk (batchWalk_eq_none carries missing noItem)
  case counted =>
    intro tag payload s hs _
    exact ⟨fun wrong => exec_wrongLength (exec_put ..) hs (putLength_eq_false wrong),
      fun wrong => exec_wrongLength (exec_setOpen ..) hs (setOpenLength_eq_false wrong),
      fun wrong => exec_wrongLength (exec_transact ..) hs (transactLength_eq_false wrong)⟩

end Sys2Proof.Machine
end
